-- ==== Sys2Proof/Word.lean ====
section
/-! DEFINITION. The bytes and words of the station bus (00_scope.md, Table entries in telegrams; R1, R42). -/

namespace Sys2Proof

/-- One byte of a telegram. -/
abbrev Byte := BitVec 8

/-- One 16-bit word: a slot's data, a table field, a command word, an indication word. -/
abbrev Word := BitVec 16

/-- A slot word: 16 data bits and a 4-bit source tag (R1). -/
structure SlotWord where
  data : Word
  tag : BitVec 4
  deriving DecidableEq, Repr

/-- The level the bus rests at when no member drives it: all twenty bits ones (R2). -/
def SlotWord.silent : SlotWord := ⟨0xFFFF, 15⟩

end Sys2Proof
end

