-- ==== Sys2Proof/Syntax.lean ====
section
/-! DEFINITION. The commands of the block: one constructor per row of spec/opcode_table.json, with the operands its rule gives it. -/

namespace Sys2Proof

/-- The station bus role selected by the ROLE strap (R3). -/
inductive Role
  | follower | master
  deriving DecidableEq, Repr

/-- The levels of the strap pins, read once at power-on (R102). -/
structure Straps where
  role : Role
  addr : BitVec 4
  fn : BitVec 2
  fb : BitVec 3
  deriving DecidableEq, Repr

/-- What a follower sees of the frame sync in one frame (R4, R5, R6): none at the expected place, one at the
expected place, or one at another place. The flag says that the pulse is the two-clock multiframe marker (R1). -/
inductive SyncIn
  | missing
  | atPlace (marker : Bool)
  | elsewhere (marker : Bool)
  deriving DecidableEq, Repr

/-- A setting group, A or B (R89). -/
inductive Group
  | a | b
  deriving DecidableEq, Repr

/-- The levels of the comparator inputs in one microsecond: bit c is drive channel c (00_scope.md, Pins). -/
structure Micro where
  peak : BitVec 20
  floor : BitVec 20
  deriving DecidableEq, Repr

/-- A stored word of a group changed by a disturbance of its storage (R101). -/
structure Disturbance where
  group : Group
  index : Fin 870
  value : Word
  deriving DecidableEq, Repr

/-- All that reaches the device from outside in one frame: the frame sync (follower), the 48 slot words on the bus,
the comparator levels microsecond by microsecond, and disturbances of the settings storage. -/
structure FrameInput where
  sync : SyncIn
  slots : Vector SlotWord 48
  micros : List Micro
  disturbed : List Disturbance
  deriving DecidableEq, Repr

/-- The tables of a setting group, in the order of R89. -/
inductive GroupTable
  | channels | feeders | matrix | reclose | drive | rectifier | firingLaw | station
  deriving DecidableEq, Repr

/-- One command of the block. The operands of a telegram's row are the telegram's own fields (R33, R34, R35, R43),
unchecked: the Service Channel Unit and the owner check them. The operand of an event's row names the element it
happens to, with the input the event needs where it needs one. -/
inductive Instr
  /-- POWER_ON (R102) with the strap pins at these levels. -/
  | powerOn (straps : Straps)
  /-- FRAME (R9): one frame of device time. -/
  | frame (inp : FrameInput)
  /-- LOCKING_ENTRY (R4): the third correctly spaced frame sync. -/
  | lockingEntry
  /-- BUS_LOST (R6): the tenth missing frame sync. -/
  | busLost
  /-- BLIND_TIME_THRESHOLD (R8). -/
  | blindTimeThreshold
  /-- SLOT_CONFLICT (R16): a third consecutive mismatch of a slot, received with this tag. -/
  | slotConflict (slot : Fin 48) (tag : BitVec 4)
  /-- INDICATION_STALE (R18): a tenth frame without a usable slot for the word. -/
  | indicationStale (word : Fin 16)
  /-- ABORT_END (R28): the last ABORT frame of a RESTART has been transmitted. -/
  | abortEnd
  /-- TAKE_BYTE (R26): a pair of identical offers of this byte is formed. -/
  | takeByte (data : Byte) (sot : Bool)
  /-- GAP_TIMEOUT (R29). -/
  | gapTimeout
  /-- UP_BYTE_TAKEN (R27). -/
  | upByteTaken
  /-- UP_TELEGRAM_START (R38). -/
  | upTelegramStart
  /-- LOAD_SLOT_MAP (R12). -/
  | loadSlotMap (group : Byte) (first count : Word) (entries : List Word)
  /-- LOAD_INDICATION (R19). -/
  | loadIndication (group : Byte) (first count : Word) (entries : List Word)
  /-- LOAD_GROUP_TABLE (R91). -/
  | loadGroupTable (table : GroupTable) (group : Byte) (first count : Word) (entries : List Word)
  /-- LOAD_RECORDER (R188). -/
  | loadRecorder (group : Byte) (first count : Word) (entries : List Word)
  /-- LOAD_COUNTERS (R196). -/
  | loadCounters (group : Byte) (first count : Word) (entries : List Word)
  /-- READ_SLOT_MAP (R14). -/
  | readSlotMap (group : Byte) (first count : Word)
  /-- READ_INDICATION (R19). -/
  | readIndication (group : Byte) (first count : Word)
  /-- READ_GROUP_TABLE (R92). -/
  | readGroupTable (table : GroupTable) (group : Byte) (first count : Word)
  /-- READ_RECORDER (R188). -/
  | readRecorder (group : Byte) (first count : Word)
  /-- READ_COUNTERS (R196). -/
  | readCounters (group : Byte) (first count : Word)
  /-- ACTIVATE (R96). -/
  | activate (group : Byte) (crc : Word)
  /-- VERIFICATION_END (R98). -/
  | verificationEnd
  /-- SCRUB (R101). -/
  | scrub
  /-- OPEN (R129). -/
  | openBreaker (breaker : Byte)
  /-- CLOSE_FEEDER (R152). -/
  | closeFeeder (feeder : Byte)
  /-- CLOSE_AC (R131). -/
  | closeAc
  /-- OPEN_ALL (R130). -/
  | openAll
  /-- CLEAR_LATCH (R128). -/
  | clearLatch (breaker : Byte)
  /-- RESET_LOCKOUT (R153). -/
  | resetLockout (feeder : Byte)
  /-- SETPOINT_STEP (R174). -/
  | setpointStep (change : Word)
  /-- SET_OUTPUT (R22). -/
  | setOutput (word bit value : Byte)
  /-- FEEDER_SERVICE (R63). -/
  | feederService (feeder flag : Byte)
  /-- TRIGGER_RECORD (R191). -/
  | triggerRecord
  /-- RELEASE_RECORD (R193). -/
  | releaseRecord (buffer : Byte)
  /-- COUNTER_FREEZE (R203). -/
  | counterFreeze
  /-- COUNTER_UNFREEZE (R203). -/
  | counterUnfreeze
  /-- COUNTER_RESET (R204). -/
  | counterReset (mask : Word)
  /-- COUNTER_PRELOAD (R204); the value is the telegram's three words. -/
  | counterPreload (counter : Byte) (value : BitVec 48)
  /-- QUERY_STATUS (R23). -/
  | queryStatus
  /-- QUERY_MEASUREMENTS (R60). -/
  | queryMeasurements
  /-- QUERY_FEEDER (R88). -/
  | queryFeeder (feeder : Byte)
  /-- QUERY_BREAKER (R134). -/
  | queryBreaker (breaker : Byte)
  /-- QUERY_RECTIFIER (R182). -/
  | queryRectifier
  /-- QUERY_COUNTERS (R205). -/
  | queryCounters
  /-- QUERY_RECORD_INFO (R195). -/
  | queryRecordInfo
  /-- QUERY_RECORD (R194). -/
  | queryRecord (buffer : Byte) (first count : Word)
  /-- SET_TIME (R37). -/
  | setTime (day : Word) (ms : BitVec 32)
  /-- RESTART (R40). -/
  | restart
  /-- HOLD_EXPIRED (R54): an invalid raw value on the channel when its hold allowance is used up. -/
  | holdExpired (channel : Fin 32)
  /-- FILL_COMPLETE (R57): the raw value whose VALID stage result completes the fill. -/
  | fillComplete (channel : Fin 32) (raw : Word)
  /-- BLANK_END (R58). -/
  | blankEnd (channel : Fin 32)
  /-- OC_TRIP (R68). -/
  | ocTrip (feeder : Fin 6)
  /-- RR_TRIP (R71). -/
  | rrTrip (feeder : Fin 6)
  /-- RISE_ENDED (R71). -/
  | riseEnded (feeder : Fin 6)
  /-- RR_RESET (R72). -/
  | rrReset (feeder : Fin 6)
  /-- CLOSE_BLOCK_END (R74). -/
  | closeBlockEnd (feeder : Fin 6)
  /-- THERMAL_BLOCK_END (R76). -/
  | thermalBlockEnd
  /-- UV_PICKUP (R80). -/
  | uvPickup (feeder : Fin 6)
  /-- INTERTRIP_OUT_RELEASE (R110). -/
  | intertripOutRelease (feeder : Fin 6)
  /-- PEAK_REACHED (R115): CSP of the channel goes high. -/
  | peakReached (channel : Fin 20)
  /-- PEAK_TIMEOUT (R115). -/
  | peakTimeout (channel : Fin 20)
  /-- COIL_LOST (R116). -/
  | coilLost (channel : Fin 20)
  /-- HOLD_TIMEOUT (R117). -/
  | holdTimeout (channel : Fin 20)
  /-- QUENCH_END (R118). -/
  | quenchEnd (channel : Fin 20)
  /-- CHECK_PULSE_END (R118). -/
  | checkPulseEnd (channel : Fin 20)
  /-- CHECK_END (R118). -/
  | checkEnd (channel : Fin 20)
  /-- COOL_OFF_END (R114). -/
  | coolOffEnd (channel : Fin 20)
  /-- BREAKER_FAILURE_CHECK (R126). -/
  | breakerFailureCheck (breaker : Fin 7)
  /-- DEAD_TIME_END (R140). -/
  | deadTimeEnd (feeder : Fin 6)
  /-- PRECHECK_PASS (R142). -/
  | precheckPass (feeder : Fin 6)
  /-- PRECHECK_TIMEOUT (R141). -/
  | precheckTimeout (feeder : Fin 6)
  /-- TEST_REQUEST (R143). -/
  | testRequest (feeder : Fin 6)
  /-- SETTLE_END (R144). -/
  | settleEnd (feeder : Fin 6)
  /-- LINE_TEST_COMPLETE (R145). -/
  | lineTestComplete (feeder : Fin 6)
  /-- CLOSE_REQUEST (R148). -/
  | closeRequest (feeder : Fin 6)
  /-- RECLAIM_END (R149). -/
  | reclaimEnd (feeder : Fin 6)
  /-- SYNC_ACQUIRED (R163): a crossing of sync voltage channel 1 this many µs after the one before. -/
  | syncAcquired (interval : Nat)
  /-- CROSSING_MISSED (R164). -/
  | crossingMissed
  /-- FIRING_INSTANT (R165). -/
  | firingInstant
  /-- GATE_PULSE_END (R165). -/
  | gatePulseEnd (thyristor : Fin 12)
  /-- RECT_RUN (R167). -/
  | rectRun
  /-- PHASE_BACK_END (R173). -/
  | phaseBackEnd
  /-- RECT_OVL (R176). -/
  | rectOvl
  /-- OVERVOLT_ROW (R179). -/
  | overvoltRow
  /-- CHOPPER_BLOCK_END (R178). -/
  | chopperBlockEnd
  /-- RECORD_HELD (R192). -/
  | recordHeld
  /-- FLOOR_SAMPLE (R116): the level of CSF at the end of an on-interval. -/
  | floorSample (channel : Fin 20) (high : Bool)
  /-- PHASE_COUNTER_WRAP (R163). -/
  | phaseCounterWrap
  deriving DecidableEq, Repr

end Sys2Proof
end

