-- ==== Sys2Proof/Config.lean ====
section
/-! DEFINITION. The free values: what the spec leaves open and the device nevertheless does. None has a body that a proof can see. -/

namespace Sys2Proof.Config

/-- Which of the 249 codes outside 01h..07h a REPLY telegram has: no file states it (log 9). -/
opaque replyCode : Fin 249

/-- Which of the 249 codes outside 01h..07h an EVENT telegram has: no file states it (log 9). -/
opaque eventCode : Fin 249

/-- The type bytes that no down telegram has: 00h, and 08h to FFh (R30, R33). -/
def upType (c : Fin 249) : Byte := if c.val = 0 then 0 else BitVec.ofNat 8 (c.val + 7)

/-- The type byte of a REPLY telegram: R38 says that it has one, R30 that it is unknown in the down direction. -/
def replyType : Byte := upType replyCode

/-- The type byte of an EVENT telegram: R38 says that it has one, R30 that it is unknown in the down direction. -/
def eventType : Byte := upType eventCode

/-- Which block's record reaches the queue next when several blocks have records in one frame: "Records of different
blocks in one frame reach the queue in either order" (R184). The first argument is `State.free` (log 7). -/
opaque eventPick : Nat → Nat → Nat

/-- Whether an UNUSED slot map entry with this target above 31 is in range (R10 states no target range for UNUSED; log 10). -/
opaque unusedTargetAccepted : Nat → Bool

/-- Whether an end of the test contactor is taken before an interruption of the same frame (R146 and R147 give no
order between them; log 11). The argument is `State.free`. -/
opaque testEndFirst : Nat → Bool

end Sys2Proof.Config
end

