-- ==== Sys2Proof/Machine/State.lean ====
section
/-! DEFINITION. The state of the device: every record the chapters give its ten blocks, as plain data, and its values
after power-on. -/

namespace Sys2Proof.Machine

/-! ## Quantities shared by the blocks -/

/-- Time of day (R37). -/
structure Clock where
  day : Nat
  ms : Nat
  frame : Nat
  deriving DecidableEq, Repr

/-- The quality words of a measurement channel (00_scope.md, Quality words). -/
inductive Quality
  | valid | held | saturated | invalid
  deriving DecidableEq, Repr

/-- A value with its quality: a delay line entry or a channel output (R49, R56). -/
structure Output where
  value : Int
  quality : Quality
  deriving DecidableEq, Repr

/-- An output that carries no measurement: the content of a delay line at power-on (R49). -/
def Output.none : Output := ⟨0, .invalid⟩

/-- The ten blocks (00_scope.md, Blocks). -/
inductive Block
  | sbi | scu | mu | fpu | su | bdu | rcl | rcu | eru | cb
  deriving DecidableEq, Repr

/-! ## Events -/

/-- The source kinds of an event record, in the order of their codes (R45). -/
inductive SourceKind
  | device | bus | service | feeder | breaker | drive | rectifier | group | indication | recorder | counter
  deriving DecidableEq, Repr

/-- The event codes of R45; code 26 is not assigned. -/
inductive EventCode
  | start | busSync | busLost | slotConflict | trip | riseEnded | thAlarm | thClear | uvPickup | opened | closed
  | closeCut | bf | coilOpen | coilLost | closeFail | discrepant | latchCleared | deadTimeStart | lineTestPass
  | lineTestFail | liveLineClose | reclaimed | lockout | lockoutReset | rectBlocked | rectRun | phaseBack | syncLost
  | overload | overvolt | chopperInhibit | setpoint | groupActive | scrubFail | indicationChange | recordHeld
  | recordMissed | counterOverflow
  deriving DecidableEq, Repr

/-- What a block hands the ERU (R183): source, code, class and, for the codes that carry one, a value. -/
structure EventMsg where
  kind : SourceKind
  index : Nat
  code : EventCode
  cls : Nat
  value : Option Int
  deriving DecidableEq, Repr

/-- A record of the event queue (R183), with whether the EVENT telegram in transmission carries it (R39). -/
structure EventRecord where
  seq : Nat
  time : Clock
  msg : EventMsg
  carried : Bool
  deriving DecidableEq, Repr

/-! ## Telegrams -/

/-- The table identifiers of R36. -/
inductive TableId
  | group (t : GroupTable)
  | slotMap | indication | recorder | counters
  deriving DecidableEq, Repr

/-- A down telegram in hand, with the fields of its payload (R33, R34, R35, R43). -/
inductive Request
  | load (table : TableId) (group : Byte) (first count : Word) (entries : List Word)
  | read (table : TableId) (group : Byte) (first count : Word)
  | activate (group : Byte) (crc : Word)
  | openBreaker (breaker : Byte)
  | closeFeeder (feeder : Byte)
  | closeAc
  | openAll
  | clearLatch (breaker : Byte)
  | resetLockout (feeder : Byte)
  | setpointStep (change : Word)
  | setOutput (word bit value : Byte)
  | feederService (feeder flag : Byte)
  | triggerRecord
  | releaseRecord (buffer : Byte)
  | counterFreeze
  | counterUnfreeze
  | counterReset (mask : Word)
  | counterPreload (counter : Byte) (value : BitVec 48)
  | queryStatus
  | queryMeasurements
  | queryFeeder (feeder : Byte)
  | queryBreaker (breaker : Byte)
  | queryRectifier
  | queryCounters
  | queryRecordInfo
  | queryRecord (buffer : Byte) (first count : Word)
  | setTime (day : Word) (ms : BitVec 32)
  | restart
  deriving DecidableEq, Repr

/-- The result codes of R31, in the order of its table (R44 numbers them from 00h). -/
inductive Result
  | done | crcError | length | unknownType | badTable | badIndex | badValue | inUse | busy | refusedState
  | refusedInterlock | cooling | checkFailed | crcMismatch
  deriving DecidableEq, Repr

/-- A REPLY: the echoed type byte, the result, the data bytes (R31, R44), and whether it is a STATUS reply that
carried the queue-overflow flag set (R35). -/
structure Reply where
  echo : Byte
  result : Result
  data : List Byte
  showsOverflow : Bool
  deriving DecidableEq, Repr

/-! ## SBI -/

/-- The sync states of R4 to R7. A master stays in RUN (R3). -/
inductive SyncState
  | search | locking | run | holdover | lost
  deriving DecidableEq, Repr

/-- A slot map entry (R10). The kind is 0 UNUSED, 1 SAMPLE_IN, 2 INDICATION_IN, 3 COMMAND_OUT. -/
structure SlotEntry where
  kind : Word
  tag : Word
  target : Word
  deriving DecidableEq, Repr

/-- The mismatch count and conflict-reported flag of a slot (R15, R16). -/
structure SlotCheck where
  count : Nat
  reported : Bool
  deriving DecidableEq, Repr

/-- An indication word record (R17). -/
structure Indication where
  agreed : Word
  candidate : Word
  candCount : Nat
  gap : Nat
  valid : Bool
  mask : Word
  changed : Clock
  deriving DecidableEq, Repr

/-- The Station Bus Interface. -/
@[ext] structure Sbi where
  sync : SyncState
  searchCount : Nat
  missing : Nat
  blindFlag : Bool
  blind : Nat
  lostRaised : Bool
  position : Nat
  heldTimeSet : Bool
  heldFallback : Bool
  map : Vector SlotEntry 48
  checks : Vector SlotCheck 48
  words : Vector Indication 16
  commands : Vector Word 16
  sent : Vector (Option SlotWord) 48
  sentSync : Option Bool
  deriving DecidableEq, Repr

/-! ## SCU -/

/-- A byte offered in the service-in word (R26). -/
structure Offer where
  wv : Bool
  data : Byte
  sot : Bool
  deriving DecidableEq, Repr

/-- The assembly states of R29. -/
inductive Assembly
  | empty | assembling | discarding
  deriving DecidableEq, Repr

/-- What an up telegram carries: the pending reply, or event records of the queue (R38, R39). -/
inductive UpKind
  | reply
  | event
  deriving DecidableEq, Repr

/-- The up telegram in transmission: the bytes not yet taken, whether the first of them is the type byte, and whether
it is presented (R27, R38). -/
structure UpTelegram where
  kind : UpKind
  bytes : List Byte
  atType : Bool
  presented : Bool
  deriving DecidableEq, Repr

/-- The work states of R31. -/
inductive Work
  | free | working | replyPending
  deriving DecidableEq, Repr

/-- The Service Channel Unit. -/
@[ext] structure Scu where
  wt : Bool
  pair : Option Offer
  abortRun : Nat
  assembly : Assembly
  buffer : List Byte
  gap : Nat
  wv : Bool
  lastAck : Bool
  lastWt : Option Bool
  level : Bool
  abortCount : Nat
  up : Option UpTelegram
  work : Work
  job : Option Request
  reply : Option Reply
  clock : Clock
  clockLoad : Option Clock
  timeSet : Bool
  deriving DecidableEq, Repr

/-! ## MU -/

/-- A channel record (R49). -/
structure Channel where
  lastGood : Int
  hold : Nat
  line : Vector Output 8
  fill : Nat
  blank : Nat
  out : Output
  prevOut : Output
  deriving DecidableEq, Repr

/-! ## FPU -/

/-- The RR element's states (R70). -/
inductive RrState
  | idle | rising | tripped
  deriving DecidableEq, Repr

/-- The element states of a feeder (R63 to R80). -/
structure Feeder where
  serviceOut : Bool
  ocCount : Nat
  ocTripped : Bool
  rr : RrState
  i0 : Int
  rise : Nat
  endCount : Nat
  resetCount : Nat
  closeBlock : Nat
  history : Vector Output 5
  theta : Nat
  sum : Nat
  thTripped : Bool
  thAlarm : Bool
  permit : Bool
  uvTimer : Nat
  uvPicked : Bool
  intertrip : Bool
  deriving DecidableEq, Repr

/-- The Feeder Protection Unit. -/
@[ext] structure Fpu where
  feeders : Vector Feeder 6
  thermalCount : Nat
  deriving DecidableEq, Repr

/-! ## SU -/

/-- The words of one setting group: the eight tables of R89 in order, 870 words. -/
abbrev Contents := Vector Word 870

/-- The group states of R90. -/
inductive GroupState
  | empty | edited | verifying | active | standby
  deriving DecidableEq, Repr

/-- A group record with its stored contents (R89, R90). -/
structure GroupRec where
  state : GroupState
  crc : Word
  words : Contents
  deriving DecidableEq, Repr

/-- The ACTIVE group and the copy of its contents in use (R99). -/
structure InUse where
  group : Group
  words : Contents
  deriving DecidableEq, Repr

/-- A verification under way: the group, the expected CRC, the contents of frame c+1 and the frames left before
frame c+64 (R96). -/
structure Verify where
  group : Group
  expected : Word
  words : Contents
  left : Nat
  deriving DecidableEq, Repr

/-- The fallback reasons of R105. -/
inductive Reason
  | powerOn | scrub
  deriving DecidableEq, Repr

/-- An intertrip-out hold record (R110). -/
structure Hold where
  flag : Bool
  count : Nat
  deriving DecidableEq, Repr

/-- The Settings Unit. `inUse = none` is fallback operation (R99). -/
@[ext] structure Su where
  a : GroupRec
  b : GroupRec
  inUse : Option InUse
  reason : Reason
  scrubTimer : Nat
  scrubFailed : Bool
  verify : Option Verify
  holds : Vector Hold 6
  deriving DecidableEq, Repr

/-! ## BDU -/

/-- The drive channel states of R114. -/
inductive DriveState
  | off | peak | hold | quench | check
  deriving DecidableEq, Repr

/-- A channel record (R114); the parameters are in the units of the drive table (R112). -/
structure Drive where
  state : DriveState
  tPeak : Nat
  dHold : Nat
  tHold : Nat
  tCool : Nat
  timer : Nat
  ramp : Nat
  floorLow : Nat
  cool : Nat
  pulseSeen : Bool
  deriving DecidableEq, Repr

/-- Breaker positions (R119). -/
inductive Position
  | opn | closed | travel | discrepant | unknown
  deriving DecidableEq, Repr

/-- The operation under way (R119). -/
inductive Operation
  | none | tripping | closing
  deriving DecidableEq, Repr

/-- A breaker's latches (R119, R128). -/
structure Latches where
  bf : Bool
  coilOpen : Bool
  coilLost : Bool
  closeFail : Bool
  deriving DecidableEq, Repr

/-- A breaker record (R119). -/
structure Breaker where
  position : Position
  op : Operation
  count : Nat
  tbf : Nat
  lastTime : Nat
  latches : Latches
  tripTaken : Bool
  moved : Bool
  wasFitted : Bool
  deriving DecidableEq, Repr

/-- The Breaker Drive Unit. -/
@[ext] structure Bdu where
  drives : Vector Drive 20
  breakers : Vector Breaker 7
  deriving DecidableEq, Repr

/-! ## RCL -/

/-- The sequence states of R137, in the order of their codes (R158). -/
inductive SeqState
  | idle | deadTime | precheck | lineTest | closing | reclaim | lockout
  deriving DecidableEq, Repr

/-- The phases of R137, in the order of their codes (R158). -/
inductive Phase
  | none | request | starting | settle | sum | closeWait | closeEnergised
  deriving DecidableEq, Repr

/-- The reason and wait cause codes of R158. -/
inductive Cause
  | none | attemptsUsed | closeFailed | closeRefused | testRefused | testEnded | fallback | restart
  | outOfService | breakerNotOpen | latch | driveBusy | elementTripped | thermal | intertrip | busVoltage
  | phaseBack | counterBlock
  deriving DecidableEq, Repr

/-- A sequence record (R137). -/
structure Seq where
  state : SeqState
  phase : Phase
  attempts : Nat
  timer : Nat
  precheck : Nat
  sumU : Int
  sumI : Int
  samples : Nat
  lastR : Nat
  reason : Cause
  wait : Cause
  live : Nat
  deriving DecidableEq, Repr

/-! ## RCU -/

/-- The RCU states of R166, in the order of their codes (R182). -/
inductive RcuState
  | blocked | softStart | regulating | phaseBack | fixed
  deriving DecidableEq, Repr

/-- The sync record (R163). -/
structure Sync where
  valid : Bool
  ref : Nat
  period : Nat
  intervals : Vector Nat 4
  acq : Nat
  missed : Nat
  seqFault : Nat
  lastCross : Option Nat
  deriving DecidableEq, Repr

/-- An overload or overvoltage record (R176, R179). -/
structure Over where
  count : Nat
  pickup : Bool
  raised : Bool
  deriving DecidableEq, Repr

/-- The chopper record (R177). -/
structure Chopper where
  gate : Bool
  energy : Nat
  inhibited : Bool
  blockCount : Nat
  deriving DecidableEq, Repr

/-- The Rectifier Control Unit. `pulses` holds the instant of the 1 µs timer at which each gate output goes inactive
(R165). -/
@[ext] structure Rcu where
  sync : Sync
  state : RcuState
  alpha : Nat
  calcAlpha : Nat
  integ : Int
  uset : Nat
  uref : Int
  vd : Nat
  blockTimer : Nat
  cause : Nat
  pendingThy : Option (Fin 12)
  point : Nat
  pulses : Vector Nat 12
  ovl : Over
  ovp : Over
  chopper : Chopper
  deriving DecidableEq, Repr

/-! ## ERU -/

/-- A recorded entry: eight channel values and a status word (R46, R190). -/
structure RecEntry where
  vals : Vector Word 8
  status : BitVec 32
  deriving DecidableEq, Repr

/-- The recorder programme: eight channels, the decimation and the pre-trigger share (R188). -/
abbrev Programme := Vector Word 10

/-- The buffer states of R189. -/
inductive BufState
  | free | capture | post | held
  deriving DecidableEq, Repr

/-- The trigger sources of R189. -/
inductive TrigSource
  | none | matrix | command | both
  deriving DecidableEq, Repr

/-- A capture buffer record (R189). -/
structure RecBuffer where
  state : BufState
  programme : Programme
  ring : Vector RecEntry 2048
  write : Nat
  written : Nat
  decim : Nat
  pre : Nat
  post : Nat
  source : TrigSource
  time : Clock
  number : Nat
  deriving DecidableEq, Repr

/-- The Event and Record Unit. -/
@[ext] structure Eru where
  queue : List EventRecord
  next : Nat
  overflow : Bool
  discarded : Bool
  startDue : List EventMsg
  programme : Programme
  buffers : Vector RecBuffer 2
  stopped : Bool
  heldCount : Nat
  deriving DecidableEq, Repr

/-! ## CB -/

/-- A counter record (R197). -/
structure Counter where
  value : Nat
  sub : Nat
  overflow : Bool
  block : Bool
  blockFeeder : Nat
  prev : Bool
  deriving DecidableEq, Repr

/-- The Counter Bank: the programme of 16 entries of nine words (R196), the counters, the bank state and the duty
currents (R197, R201). -/
@[ext] structure Cb where
  programme : Vector Word 144
  counters : Vector Counter 16
  frozen : Bool
  duty : Vector Nat 7
  deriving DecidableEq, Repr

/-! ## What passes between the blocks within one frame -/

/-- The close outcomes of R124. -/
inductive CloseOutcome
  | closed | failed | cut
  deriving DecidableEq, Repr

/-- A command answered DONE for a reclose sequence (R138, step 3). -/
inductive SeqCommand
  | closeFeeder
  | resetLockout
  deriving DecidableEq, Repr

/-- A row of the trip matrix raised in the frame, with the value handed with it (R82, R107, R109). -/
structure RowRaise where
  row : Fin 40
  value : Int
  deriving DecidableEq, Repr

/-- The signals between the blocks within one command's work. Empty between commands. -/
@[ext] structure Wires where
  events : List (Block × EventMsg)
  rows : List RowRaise
  matrixTrigger : Bool
  commandTrigger : Bool
  phaseBack : Bool
  starts : Vector Bool 6
  rowNotice : Vector Bool 6
  commandOpening : Vector Bool 6
  seqCommand : Option (Fin 6 × SeqCommand)
  fallbackNotice : Bool
  outcome : Vector (Option CloseOutcome) 6
  testHeld : Vector Bool 6
  testReleased : Vector Bool 6
  tripStarted : Vector Bool 7
  rcuRestart : Bool
  freezeNext : Bool
  deriving DecidableEq, Repr

/-- No signal on any wire. -/
def Wires.none : Wires where
  events := []
  rows := []
  matrixTrigger := false
  commandTrigger := false
  phaseBack := false
  starts := Vector.replicate 6 false
  rowNotice := Vector.replicate 6 false
  commandOpening := Vector.replicate 6 false
  seqCommand := Option.none
  fallbackNotice := false
  outcome := Vector.replicate 6 Option.none
  testHeld := Vector.replicate 6 false
  testReleased := Vector.replicate 6 false
  tripStarted := Vector.replicate 7 false
  rcuRestart := false
  freezeNext := false

/-! ## The state -/

/-- The whole state of the device, with the queue of waiting commands. -/
@[ext]
structure State where
  straps : Straps
  timer : Nat
  stamp : Nat
  prevStamp : Nat
  fresh : Bool
  free : Nat
  sbi : Sbi
  scu : Scu
  mu : Vector Channel 32
  fpu : Fpu
  su : Su
  bdu : Bdu
  rcl : Vector Seq 6
  rcu : Rcu
  eru : Eru
  cb : Cb
  wires : Wires
  pending : List Instr
  deriving DecidableEq, Repr

/-- The reasons a step could stop with a fault. There is none: the spec gives every command an effect in every state,
and what it calls a fault (of a coil, a breaker, a group's storage, the bus) is an event, a latch or a state. -/
inductive Fault
  deriving DecidableEq, Repr

/-- The reasons a command is refused by the model itself. -/
inductive Refusal
  /-- Raised by an arm of `exec` whose command has no meaning yet; safe, since nothing can be proved of a run past it.
  No arm raises it now. -/
  | notModelled (mnemonic : String)
  deriving DecidableEq, Repr

/-! ## Power-on -/

/-- The number of feeders held from the FN strap: codes 0, 1, 2, 3 read 4, 5, 6, 6 (R102). -/
def feederCount (p : Straps) : Nat :=
  if p.fn = 0 then 4 else if p.fn = 1 then 5 else 6

/-- Day 0, ms 0, frame 0 (R37). -/
def Clock.zero : Clock := ⟨0, 0, 0⟩

/-- The strap default map (R11). -/
def defaultSlot (p : Straps) (s : Nat) : SlotEntry :=
  if 1 ≤ s ∧ s ≤ 2 * feederCount p then ⟨1, BitVec.ofNat 16 ((s + 1) / 2), BitVec.ofNat 16 s⟩
  else if 13 ≤ s ∧ s ≤ 18 then ⟨1, 7, BitVec.ofNat 16 s⟩
  else if 20 ≤ s ∧ s ≤ 27 then ⟨2, 8, BitVec.ofNat 16 (s - 20)⟩
  else if 30 ≤ s ∧ s ≤ 33 then ⟨3, p.addr.setWidth 16, BitVec.ofNat 16 (s - 30)⟩
  else ⟨0, 0, 0⟩

/-- An indication word at power-on (R18, R19). -/
def Indication.powerOn : Indication := ⟨0, 0, 0, 0, false, 0, Clock.zero⟩

/-- The SBI at power-on (R3, R4, R11, R16, R18, R19, R20, R24). -/
def Sbi.powerOn (p : Straps) : Sbi where
  sync := if p.role = .master then .run else .search
  searchCount := 0
  missing := 0
  blindFlag := false
  blind := 0
  lostRaised := false
  position := 0
  heldTimeSet := false
  heldFallback := false
  map := Vector.ofFn fun i => defaultSlot p i.val
  checks := Vector.replicate 48 ⟨0, false⟩
  words := Vector.replicate 16 Indication.powerOn
  commands := Vector.replicate 16 0
  sent := Vector.replicate 48 Option.none
  sentSync := Option.none

/-- The SCU at power-on (R41, R37). -/
def Scu.powerOn : Scu where
  wt := false
  pair := Option.none
  abortRun := 0
  assembly := .empty
  buffer := []
  gap := 0
  wv := false
  lastAck := false
  lastWt := Option.none
  level := true
  abortCount := 0
  up := Option.none
  work := .free
  job := Option.none
  reply := Option.none
  clock := Clock.zero
  clockLoad := Option.none
  timeSet := false

/-- A channel record at power-on (R49): the fill count is the fallback delay 0 plus 1. -/
def Channel.powerOn : Channel where
  lastGood := 0
  hold := 4
  line := Vector.replicate 8 Output.none
  fill := 1
  blank := 0
  out := Output.none
  prevOut := Output.none

/-- A feeder's element states at power-on (R86). -/
def Feeder.powerOn : Feeder where
  serviceOut := false
  ocCount := 0
  ocTripped := false
  rr := .idle
  i0 := 0
  rise := 0
  endCount := 0
  resetCount := 0
  closeBlock := 0
  history := Vector.replicate 5 Output.none
  theta := 0
  sum := 0
  thTripped := false
  thAlarm := false
  permit := true
  uvTimer := 0
  uvPicked := false
  intertrip := false

/-- The SU at power-on (R111). -/
def Su.powerOn : Su where
  a := ⟨.empty, 0, Vector.replicate 870 0⟩
  b := ⟨.empty, 0, Vector.replicate 870 0⟩
  inUse := Option.none
  reason := .powerOn
  scrubTimer := 0
  scrubFailed := false
  verify := Option.none
  holds := Vector.replicate 6 ⟨false, 0⟩

/-- A drive channel at power-on (R114). -/
def Drive.powerOn : Drive := ⟨.off, 0, 0, 0, 0, 0, 0, 0, 0, false⟩

/-- No latch set. -/
def Latches.none : Latches := ⟨false, false, false, false⟩

/-- A breaker record at power-on (R119); fitted as the fallback drive records give (R113). -/
def Breaker.powerOn (p : Straps) (b : Nat) : Breaker where
  position := .unknown
  op := .none
  count := 0
  tbf := 20
  lastTime := 0
  latches := Latches.none
  tripTaken := false
  moved := false
  wasFitted := decide (b < feederCount p ∨ b = 6)

/-- The BDU at power-on (R114, R119, R133). -/
def Bdu.powerOn (p : Straps) : Bdu where
  drives := Vector.replicate 20 Drive.powerOn
  breakers := Vector.ofFn fun b => Breaker.powerOn p b.val

/-- A sequence record at power-on (R137). -/
def Seq.powerOn : Seq where
  state := .idle
  phase := .none
  attempts := 0
  timer := 0
  precheck := 0
  sumU := 0
  sumI := 0
  samples := 0
  lastR := 0
  reason := .none
  wait := .none
  live := 0

/-- The RCU at power-on (R163, R180). -/
def Rcu.powerOn : Rcu where
  sync := ⟨false, 0, 20000, Vector.replicate 4 20000, 0, 0, 0, Option.none⟩
  state := .blocked
  alpha := 0
  calcAlpha := 0
  integ := 0
  uset := 0
  uref := 0
  vd := 0
  blockTimer := 0
  cause := 0
  pendingThy := Option.none
  point := 0
  pulses := Vector.replicate 12 0
  ovl := ⟨0, false, false⟩
  ovp := ⟨0, false, false⟩
  chopper := ⟨false, 0, false, 0⟩

/-- The recorder programme at power-on (R188). -/
def Programme.powerOn : Programme := #v[13, 1, 3, 5, 7, 9, 11, 14, 1, 25]

/-- A buffer at power-on that holds no record (R189). -/
def RecBuffer.blank : RecBuffer where
  state := .free
  programme := Vector.replicate 10 0
  ring := Vector.replicate 2048 ⟨Vector.replicate 8 0, 0⟩
  write := 0
  written := 0
  decim := 0
  pre := 0
  post := 0
  source := .none
  time := Clock.zero
  number := 0

/-- The ERU at power-on (R187, R188, R189, R192): the START record of the first frame is still to be appended. -/
def Eru.powerOn : Eru where
  queue := []
  next := 0
  overflow := false
  discarded := false
  startDue := [⟨.device, 0, .start, 1, some 0⟩]
  programme := Programme.powerOn
  buffers := #v[{ RecBuffer.blank with state := .capture, programme := Programme.powerOn }, RecBuffer.blank]
  stopped := false
  heldCount := 0

/-- The CB at power-on (R197). -/
def Cb.powerOn : Cb where
  programme := Vector.replicate 144 0
  counters := Vector.replicate 16 ⟨0, 0, false, false, 0, false⟩
  frozen := false
  duty := Vector.replicate 7 0

/-- The device right after power-on with its straps at these levels (R102). -/
def State.powerOn (p : Straps) : State where
  straps := p
  timer := 0
  stamp := 0
  prevStamp := 0
  fresh := true
  free := 0
  sbi := Sbi.powerOn p
  scu := Scu.powerOn
  mu := Vector.replicate 32 Channel.powerOn
  fpu := ⟨Vector.replicate 6 Feeder.powerOn, 0⟩
  su := Su.powerOn
  bdu := Bdu.powerOn p
  rcl := Vector.replicate 6 Seq.powerOn
  rcu := Rcu.powerOn
  eru := Eru.powerOn
  cb := Cb.powerOn
  wires := Wires.none
  pending := []

/-- The straps of the reset state: every pin low, that is FOLLOWER, tag 0, four feeders, fallback row 0 (log 5). -/
def strapsLow : Straps := ⟨.follower, 0, 0, 0⟩

/-- The device right after reset: power-on with every strap pin low (R102; the strap levels are log 5). -/
def State.reset : State := State.powerOn strapsLow

end Sys2Proof.Machine
end

