-- ==== Sys2Proof/Machine/Ops.lean ====
section
/-! DEFINITION. The shared operations: changing one record of the state, handing events and rows to their blocks,
words and bytes, the CRC. -/

namespace Sys2Proof.Machine

/-! ## Vectors of records -/

/-- The word at an index, 0 outside the vector. -/
def wordAt (v : Vector Word n) (i : Nat) : Word :=
  if h : i < n then v[i] else 0

/-- Replace the words from an offset on by a list of words, as an accepted LOAD stores them. -/
def putWords (v : Vector Word n) (off : Nat) (ws : List Word) : Vector Word n :=
  Vector.ofFn fun i => if off ≤ i.val ∧ i.val < off + ws.length then ws.getD (i.val - off) 0 else v[i]

/-- The words from an offset on, as a READ returns them. -/
def takeWords (v : Vector Word n) (off len : Nat) : List Word :=
  (List.range len).map fun j => wordAt v (off + j)

/-- Change one entry of a vector. -/
def updAt (v : Vector α n) (i : Fin n) (f : α → α) : Vector α n :=
  v.set i (f v[i])

/-- Change every entry of a vector, each with its index. -/
def mapAt (v : Vector α n) (f : Fin n → α → β) : Vector β n :=
  Vector.ofFn fun i => f i v[i]

/-- Do an operation for each index of a bank in turn, in ascending order. Where the operation hands records, this is
the order of one block's records of one frame; the chapters fix none (R184; log 41, DESIGN CHOICE). -/
def forAll (n : Nat) (f : Fin n → σ → σ) (s : σ) : σ :=
  (List.finRange n).foldl (fun s i => f i s) s

/-! ## Changing one block -/

/-- Change the Station Bus Interface alone. -/
def State.onSbi (s : State) (f : Sbi → Sbi) : State :=
  { s with sbi := f s.sbi }

/-- Change the Service Channel Unit alone. -/
def State.onScu (s : State) (f : Scu → Scu) : State :=
  { s with scu := f s.scu }

/-- Change the Measurement Unit alone. -/
def State.onMu (s : State) (f : Vector Channel 32 → Vector Channel 32) : State :=
  { s with mu := f s.mu }

/-- Change the Feeder Protection Unit alone. -/
def State.onFpu (s : State) (f : Fpu → Fpu) : State :=
  { s with fpu := f s.fpu }

/-- Change the Settings Unit alone. -/
def State.onSu (s : State) (f : Su → Su) : State :=
  { s with su := f s.su }

/-- Change the Breaker Drive Unit alone. -/
def State.onBdu (s : State) (f : Bdu → Bdu) : State :=
  { s with bdu := f s.bdu }

/-- Change the reclose sequences alone. -/
def State.onRcl (s : State) (f : Vector Seq 6 → Vector Seq 6) : State :=
  { s with rcl := f s.rcl }

/-- Change the Rectifier Control Unit alone. -/
def State.onRcu (s : State) (f : Rcu → Rcu) : State :=
  { s with rcu := f s.rcu }

/-- Change the Event and Record Unit alone. -/
def State.onEru (s : State) (f : Eru → Eru) : State :=
  { s with eru := f s.eru }

/-- Change the Counter Bank alone. -/
def State.onCb (s : State) (f : Cb → Cb) : State :=
  { s with cb := f s.cb }

/-- Change the wires between the blocks alone. -/
def State.onWires (s : State) (f : Wires → Wires) : State :=
  { s with wires := f s.wires }

/-- Change one feeder's element states. -/
def State.onFeeder (s : State) (k : Fin 6) (f : Feeder → Feeder) : State :=
  s.onFpu fun u => { u with feeders := updAt u.feeders k f }

/-- Change one drive channel record. -/
def State.onDrive (s : State) (c : Fin 20) (f : Drive → Drive) : State :=
  s.onBdu fun u => { u with drives := updAt u.drives c f }

/-- Change one breaker record. -/
def State.onBreaker (s : State) (b : Fin 7) (f : Breaker → Breaker) : State :=
  s.onBdu fun u => { u with breakers := updAt u.breakers b f }

/-- Change one sequence record. -/
def State.onSeq (s : State) (k : Fin 6) (f : Seq → Seq) : State :=
  s.onRcl fun v => updAt v k f

/-- The feeder's element states. -/
def State.feeder (s : State) (k : Fin 6) : Feeder := s.fpu.feeders[k]

/-- The drive channel record. -/
def State.drive (s : State) (c : Fin 20) : Drive := s.bdu.drives[c]

/-- The breaker record. -/
def State.breaker (s : State) (b : Fin 7) : Breaker := s.bdu.breakers[b]

/-- The sequence record. -/
def State.seq (s : State) (k : Fin 6) : Seq := s.rcl[k]

/-- The output of a measurement channel in the latest vector (R60). -/
def State.output (s : State) (c : Fin 32) : Output := s.mu[c].out

/-! ## Feeders, breakers and channels -/

/-- The breaker of a feeder (R61). -/
def breakerOf (k : Fin 6) : Fin 7 := k.castSucc

/-- The feeder of a feeder breaker; none for the AC breaker. -/
def feederOf (b : Fin 7) : Option (Fin 6) :=
  if h : b.val < 6 then some ⟨b.val, h⟩ else none

/-- The AC breaker. -/
def acBreaker : Fin 7 := 6

/-- The trip channel of a breaker (06, numbering of the channels). -/
def tripChannel (b : Fin 7) : Fin 20 :=
  if h : b.val < 6 then ⟨b.val, by omega⟩ else 18

/-- The close channel of a breaker. -/
def closeChannel (b : Fin 7) : Fin 20 :=
  if h : b.val < 6 then ⟨6 + b.val, by omega⟩ else 19

/-- The test contactor channel of a feeder. -/
def testChannel (k : Fin 6) : Fin 20 := ⟨12 + k.val, by omega⟩

/-- What a drive channel drives. -/
inductive CoilKind
  | trip | close | test
  deriving DecidableEq, Repr

/-- A channel's kind follows from its number (06). -/
def coilKind (c : Fin 20) : CoilKind :=
  if c.val < 6 ∨ c.val = 18 then .trip else if c.val < 12 ∨ c.val = 19 then .close else .test

/-- The breaker that owns a channel (06). -/
def channelBreaker (c : Fin 20) : Fin 7 :=
  if c.val < 18 then ⟨c.val % 6, by omega⟩ else 6

/-- The feeder of a test contactor channel. -/
def channelFeeder (c : Fin 20) : Fin 6 := ⟨c.val % 6, by omega⟩

/-! ## Handing events and rows -/

/-- The code of an event (R45). -/
def EventCode.code : EventCode → Nat
  | .start => 1 | .busSync => 2 | .busLost => 3 | .slotConflict => 4 | .trip => 5 | .riseEnded => 6 | .thAlarm => 7
  | .thClear => 8 | .uvPickup => 9 | .opened => 10 | .closed => 11 | .closeCut => 12 | .bf => 13 | .coilOpen => 14
  | .coilLost => 15 | .closeFail => 16 | .discrepant => 17 | .latchCleared => 18 | .deadTimeStart => 19
  | .lineTestPass => 20 | .lineTestFail => 21 | .liveLineClose => 22 | .reclaimed => 23 | .lockout => 24
  | .lockoutReset => 25 | .rectBlocked => 27 | .rectRun => 28 | .phaseBack => 29 | .syncLost => 30 | .overload => 31
  | .overvolt => 32 | .chopperInhibit => 33 | .setpoint => 34 | .groupActive => 35 | .scrubFail => 36
  | .indicationChange => 37 | .recordHeld => 38 | .recordMissed => 39 | .counterOverflow => 40

/-- The code of a source kind (R45). -/
def SourceKind.code : SourceKind → Nat
  | .device => 0 | .bus => 1 | .service => 2 | .feeder => 3 | .breaker => 4 | .drive => 5 | .rectifier => 6
  | .group => 7 | .indication => 8 | .recorder => 9 | .counter => 10

/-- A block hands an event to the ERU (R183). It enters the queue when the frame's events are appended (`appendEvents`). -/
def emit (b : Block) (m : EventMsg) (s : State) : State :=
  s.onWires fun w => { w with events := w.events ++ [(b, m)] }

/-- A block hands several events, in order. -/
def emitAll (b : Block) (ms : List EventMsg) (s : State) : State :=
  s.onWires fun w => { w with events := w.events ++ ms.map fun m => (b, m) }

/-- A source raises a row of the trip matrix (R107) and hands a value with it (R82, R109). -/
def raiseRow (r : Fin 40) (value : Int) (s : State) : State :=
  s.onWires fun w => { w with rows := w.rows ++ [⟨r, value⟩] }

/-- The elements of a feeder that own a row, in the order of R93. -/
inductive FeederRow
  | oc | rr | th | uv | bf | it
  deriving DecidableEq, Repr

/-- The place of an element's row within its feeder's six (R93). -/
def FeederRow.offset : FeederRow → Fin 6
  | .oc => 0 | .rr => 1 | .th => 2 | .uv => 3 | .bf => 4 | .it => 5

/-- The row of a feeder's element: rows 6k to 6k+5 (R93). -/
def feederRow (k : Fin 6) (e : FeederRow) : Fin 40 := ⟨6 * k.val + e.offset.val, by omega⟩

/-! ## Words, bytes and the CRC -/

/-- A word as two bytes, high byte first (00_scope.md, CRC; R42). -/
def wordBytes (w : Word) : List Byte := [(w >>> 8).setWidth 8, w.setWidth 8]

/-- Words as bytes, high byte first. -/
def bytesOf (ws : List Word) : List Byte := ws.flatMap wordBytes

/-- Two bytes as a word, high byte first. -/
def wordOf (hi lo : Byte) : Word := (hi.setWidth 16 <<< 8) ||| lo.setWidth 16

/-- Bytes as words, high byte first; an odd last byte is dropped. -/
def wordsOf : List Byte → List Word
  | hi :: lo :: rest => wordOf hi lo :: wordsOf rest
  | _ => []

/-- A natural number as one word. -/
def word1 (x : Nat) : Word := BitVec.ofNat 16 x

/-- A flag as one word: 0 or 1. -/
def flagWord (b : Bool) : Word := if b then 1 else 0

/-- An integer as a 32-bit field of two words, high word first (00_scope.md, Table entries in telegrams). -/
def word2 (x : Int) : List Word :=
  let v := BitVec.ofInt 32 x
  [(v >>> 16).setWidth 16, v.setWidth 16]

/-- A natural number as three words, high word first. -/
def word3 (x : Nat) : List Word :=
  let v := BitVec.ofNat 48 x
  [(v >>> 32).setWidth 16, (v >>> 16).setWidth 16, v.setWidth 16]

/-- A clock as four words: day, ms high, ms low, frame in ms (R44). -/
def clockWords (c : Clock) : List Word :=
  [word1 c.day] ++ word2 c.ms ++ [word1 c.frame]

/-- One bit of the CRC: polynomial 1021h, most significant bit first. -/
def crcBit (c : Word) : Word := if c.msb then (c <<< 1) ^^^ 0x1021 else c <<< 1

/-- One byte into the CRC. -/
def crcByte (c : Word) (b : Byte) : Word :=
  crcBit (crcBit (crcBit (crcBit (crcBit (crcBit (crcBit (crcBit (c ^^^ (b.setWidth 16 <<< 8)))))))))

/-- The CRC of a list of bytes, from FFFFh, without final inversion (00_scope.md, CRC). -/
def crc (bs : List Byte) : Word := bs.foldl crcByte 0xFFFF

/-- The CRC of a setting group: every word in table order, high byte first (R95). -/
def groupCrc (g : Contents) : Word := crc (bytesOf g.toList)

/-! ## Limits -/

/-- Clamp to a range. -/
def clampInt (lo hi x : Int) : Int := if x < lo then lo else if hi < x then hi else x

/-- Clamp a natural number to a range. -/
def clampNat (lo hi x : Nat) : Nat := if x < lo then lo else if hi < x then hi else x

/-- The clamp of event values (R78, R202). -/
def eventMax : Nat := 2147483647

end Sys2Proof.Machine
end

