-- ==== Sys2Proof/Machine/Settings.lean ====
section
/-! DEFINITION. The settings in use (R99): the records of the ACTIVE group's copy, or of the fallback set (R48, R62, R103,
R104, R113, R136, R161). -/

namespace Sys2Proof.Machine

/-! ## The layout of a group's contents (R89) -/

/-- The table identifier's code (R36). -/
def tableCode : GroupTable → Nat
  | .channels => 1 | .feeders => 2 | .matrix => 3 | .reclose => 4 | .drive => 5 | .rectifier => 6 | .firingLaw => 7
  | .station => 8

/-- Words per entry (R89 and the field tables). -/
def tableWidth : GroupTable → Nat
  | .channels => 6 | .feeders => 24 | .matrix => 6 | .reclose => 13 | .drive => 5 | .rectifier => 33 | .firingLaw => 1
  | .station => 18

/-- Entries of the table (R89). -/
def tableSize : GroupTable → Nat
  | .channels => 32 | .feeders => 6 | .matrix => 40 | .reclose => 6 | .drive => 20 | .rectifier => 1 | .firingLaw => 65
  | .station => 1

/-- Where the table's words begin in the group's contents: the tables stand in the order of R89. -/
def tableBase : GroupTable → Nat
  | .channels => 0 | .feeders => 192 | .matrix => 336 | .reclose => 576 | .drive => 654 | .rectifier => 754
  | .firingLaw => 787 | .station => 852

/-- All tables in the order of R89. -/
def allTables : List GroupTable :=
  [.channels, .feeders, .matrix, .reclose, .drive, .rectifier, .firingLaw, .station]

/-- Field j of entry i of a table. -/
def field (g : Contents) (t : GroupTable) (i j : Nat) : Word :=
  wordAt g (tableBase t + tableWidth t * i + j)

/-- Field j of entry i as an unsigned number. -/
def fieldN (g : Contents) (t : GroupTable) (i j : Nat) : Nat := (field g t i j).toNat

/-- A 32-bit field at words j and j+1, high word first. -/
def fieldN2 (g : Contents) (t : GroupTable) (i j : Nat) : Nat := fieldN g t i j * 65536 + fieldN g t i (j + 1)

/-- A flag field. -/
def fieldB (g : Contents) (t : GroupTable) (i j : Nat) : Bool := field g t i j == 1

/-- A measurement channel number. Verified contents hold 0..31. -/
def channelNo (x : Nat) : Fin 32 := ⟨x % 32, Nat.mod_lt _ (by decide)⟩

/-! ## The fallback figures of the FB strap (R103) -/

/-- I_oc of the FB strap row. -/
def fallbackIoc (p : Straps) : Nat := 2000 + 1000 * p.fb.toNat

/-- N_oc of the FB strap row. -/
def fallbackNoc (p : Straps) : Nat := if p.fb.toNat ≤ 3 then 2 else if p.fb.toNat ≤ 6 then 3 else 4

/-- α_fb of the FB strap row. -/
def fallbackAlpha (p : Straps) : Nat := 150 + 50 * p.fb.toNat

/-! ## Channel table view (R47, R48) -/

/-- An entry of the channel table. The kind is 0 UNUSED, 1 DC_CURRENT, 2 DC_VOLTAGE, 3 AC_VOLTAGE. -/
structure ChanView where
  kind : Nat
  gain : Nat
  offset : Int
  limit : Nat
  delay : Nat
  allowance : Nat
  deriving DecidableEq, Repr

/-- The kind of a channel in the fallback channel table (R48). -/
def fallbackKind (p : Straps) (c : Nat) : Nat :=
  if 1 ≤ c ∧ c ≤ 2 * feederCount p then (if c % 2 = 1 then 1 else 2)
  else if c = 13 then 2
  else if c = 14 ∨ c = 15 then 1
  else if 16 ≤ c ∧ c ≤ 18 then 3
  else 0

/-- The channel table view (R48). -/
def chanView (p : Straps) (u : Option InUse) (c : Fin 32) : ChanView :=
  match u with
  | none => ⟨fallbackKind p c.val, 4096, 0, 65535, 0, 2⟩
  | some u =>
    let f := fieldN u.words .channels c.val
    ⟨f 0, f 1, (field u.words .channels c.val 2).toInt, f 3, f 4, f 5⟩

/-! ## Feeder record in use (R61, R62) -/

/-- A feeder record. `full` is false in the fallback record, where RR and UV are not evaluated. -/
structure FeederView where
  inService : Bool
  current : Fin 32
  voltage : Fin 32
  iOc : Nat
  nOc : Nat
  sStart : Nat
  sHold : Nat
  dISet : Nat
  tMin : Nat
  tMax : Nat
  iReset : Nat
  iTh : Nat
  tau : Nat
  alarmPct : Nat
  reclosePct : Nat
  uvLevel : Nat
  uvTime : Nat
  uvTrip : Bool
  outPresent : Bool
  outWord : Nat
  outBit : Nat
  inPresent : Bool
  inWord : Nat
  inBit : Nat
  full : Bool
  deriving DecidableEq, Repr

/-- The fallback feeder record (R62). -/
def fallbackFeeder (p : Straps) (k : Fin 6) : FeederView where
  inService := decide (k.val < feederCount p)
  current := channelNo (1 + 2 * k.val)
  voltage := channelNo (2 + 2 * k.val)
  iOc := fallbackIoc p
  nOc := fallbackNoc p
  sStart := 0
  sHold := 0
  dISet := 0
  tMin := 0
  tMax := 0
  iReset := 0
  iTh := 65535
  tau := 600
  alarmPct := 100
  reclosePct := 100
  uvLevel := 0
  uvTime := 0
  uvTrip := false
  outPresent := false
  outWord := 0
  outBit := 0
  inPresent := false
  inWord := 0
  inBit := 0
  full := false

/-- A group's feeder record (R61). -/
def groupFeeder (g : Contents) (k : Nat) : FeederView :=
  let n := fieldN g .feeders k
  let b := fieldB g .feeders k
  { inService := b 0, current := channelNo (n 1), voltage := channelNo (n 2), iOc := n 3, nOc := n 4, sStart := n 5,
    sHold := n 6, dISet := n 7, tMin := n 8, tMax := n 9, iReset := n 10, iTh := n 11, tau := n 12, alarmPct := n 13,
    reclosePct := n 14, uvLevel := n 15, uvTime := n 16, uvTrip := b 17, outPresent := b 18, outWord := n 19,
    outBit := n 20, inPresent := b 21, inWord := n 22, inBit := n 23, full := true }

/-- The feeder record in use (R62). -/
def feederView (p : Straps) (u : Option InUse) (k : Fin 6) : FeederView :=
  match u with
  | none => fallbackFeeder p k
  | some u => groupFeeder u.words k.val

/-! ## Trip matrix in use (R93, R104) -/

/-- A row of the trip matrix. -/
structure RowView where
  trip : Word
  intertrip : Word
  phaseBack : Bool
  record : Bool
  reclose : Bool
  cls : Nat
  deriving DecidableEq, Repr

/-- The fallback matrix (R104). -/
def fallbackRow (r : Fin 40) : RowView :=
  if r.val < 36 then
    if r.val % 6 = 0 then ⟨1 <<< (r.val / 6), 0, false, true, false, 0⟩
    else if r.val % 6 = 4 then ⟨0x40, 0, false, true, false, 0⟩
    else ⟨0, 0, false, false, false, 3⟩
  else if r.val = 36 then ⟨0x3F, 0, false, true, false, 0⟩
  else if r.val = 38 then ⟨0x40, 0, false, true, false, 0⟩
  else ⟨0, 0, false, true, false, 0⟩

/-- The row of the matrix in use. -/
def rowView (u : Option InUse) (r : Fin 40) : RowView :=
  match u with
  | none => fallbackRow r
  | some u =>
    let b := fieldB u.words .matrix r.val
    ⟨field u.words .matrix r.val 0, field u.words .matrix r.val 1, b 2, b 3, b 4, fieldN u.words .matrix r.val 5⟩

/-! ## Station record in use (R94, R103) -/

/-- T_blind of the station record in use, ms; 100 in fallback (R8). -/
def tBlind (u : Option InUse) : Nat :=
  match u with
  | none => 100
  | some u => fieldN u.words .station 0 0

/-- T_bf of the station record in use, ms; 150 in fallback (R113). -/
def tBf (u : Option InUse) : Nat :=
  match u with
  | none => 150
  | some u => fieldN u.words .station 0 1

/-- The feeder that owns a command bit under these settings; none is GATEWAY (R21). -/
def bitOwner (p : Straps) (u : Option InUse) (word bit : Nat) : Option (Fin 6) :=
  (List.finRange 6).find? fun k =>
    let f := feederView p u k
    f.outPresent && f.outWord == word && f.outBit == bit

/-! ## Drive settings in use (R112, R113) -/

/-- An entry of the drive table. -/
structure DriveView where
  tPeak : Nat
  dHold : Nat
  tHold : Nat
  tCool : Nat
  enabled : Bool
  deriving DecidableEq, Repr

/-- The fallback drive records (R113). -/
def fallbackDrive (p : Straps) (c : Fin 20) : DriveView :=
  let b := channelBreaker c
  let fitted := decide (b.val < feederCount p ∨ b.val = 6)
  match coilKind c with
  | .trip => ⟨20, 50, 200, 0, fitted⟩
  | .close => ⟨20, 50, 300, 10, fitted⟩
  | .test => ⟨20, 40, 1000, 0, fitted⟩

/-- The drive settings in use (R113). -/
def driveView (p : Straps) (u : Option InUse) (c : Fin 20) : DriveView :=
  match u with
  | none => fallbackDrive p c
  | some u =>
    let n := fieldN u.words .drive c.val
    ⟨n 0, n 1, n 2, n 3, fieldB u.words .drive c.val 4⟩

/-- A breaker is fitted when its trip channel is enabled (R113). -/
def fitted (p : Straps) (u : Option InUse) (b : Fin 7) : Bool := (driveView p u (tripChannel b)).enabled

/-! ## Reclose programme in use (R135, R136) -/

/-- An entry of the reclose table. -/
structure RecloseView where
  attempts : Nat
  dead : Nat → Nat
  tSettle : Nat
  nAvg : Nat
  rMin : Nat
  iTestMin : Nat
  uLive : Nat
  uBusMin : Nat
  tReclaim : Nat

/-- The reclose programme in use (R136); `dead n` is the field dead time n, in ms. -/
def recloseView (u : Option InUse) (k : Fin 6) : RecloseView :=
  match u with
  | none => ⟨0, fun _ => 5000, 100, 16, 2000, 2, 500, 500, 10⟩
  | some u =>
    let n := fieldN u.words .reclose k.val
    ⟨n 0, n, n 5, n 6, fieldN2 u.words .reclose k.val 7, n 9, n 10, n 11, n 12⟩

/-! ## Rectifier settings in use (R159, R160, R161) -/

/-- The rectifier record. The regulator's fields are 0 in the fallback record, where no regulation takes place. -/
structure RectView where
  uSet : Nat
  uSetMin : Nat
  uSetMax : Nat
  uRefMax : Nat
  kc : Nat
  kp : Nat
  ki : Nat
  ud0 : Nat
  aMin : Nat
  aMax : Nat
  aBlock : Nat
  tBlock : Nat
  dAlphaMax : Nat
  dAlphaSoft : Nat
  iLim : Nat
  kl : Nat
  iOvl : Nat
  tOvl : Nat
  uChOn : Nat
  uChOff : Nat
  rCh : Nat
  eMax : Nat
  tauCh : Nat
  uOvp : Nat
  tOvp : Nat
  bus : Fin 32
  bridge1 : Fin 32
  bridge2 : Fin 32
  sync1 : Fin 32
  sync2 : Fin 32
  sync3 : Fin 32
  pulse : Nat
  deriving DecidableEq, Repr

/-- The fallback rectifier record (R161). -/
def fallbackRect : RectView where
  uSet := 0
  uSetMin := 0
  uSetMax := 0
  uRefMax := 0
  kc := 0
  kp := 0
  ki := 0
  ud0 := 0
  aMin := 0
  aMax := 0
  aBlock := 0
  tBlock := 0
  dAlphaMax := 0
  dAlphaSoft := 0
  iLim := 0
  kl := 0
  iOvl := 6000
  tOvl := 50000
  uChOn := 900
  uChOff := 850
  rCh := 1500
  eMax := 2000000
  tauCh := 300
  uOvp := 1000
  tOvp := 50
  bus := 13
  bridge1 := 14
  bridge2 := 15
  sync1 := 16
  sync2 := 17
  sync3 := 18
  pulse := 1200

/-- A group's rectifier record (R159). -/
def groupRect (g : Contents) : RectView :=
  let n := fieldN g .rectifier 0
  { uSet := n 0, uSetMin := n 1, uSetMax := n 2, uRefMax := n 3, kc := n 4, kp := n 5, ki := n 6, ud0 := n 7,
    aMin := n 8, aMax := n 9, aBlock := n 10, tBlock := n 11, dAlphaMax := n 12, dAlphaSoft := n 13, iLim := n 14,
    kl := n 15, iOvl := n 16, tOvl := n 17, uChOn := n 18, uChOff := n 19, rCh := n 20,
    eMax := fieldN2 g .rectifier 0 21, tauCh := n 23, uOvp := n 24, tOvp := n 25, bus := channelNo (n 26),
    bridge1 := channelNo (n 27), bridge2 := channelNo (n 28), sync1 := channelNo (n 29), sync2 := channelNo (n 30),
    sync3 := channelNo (n 31), pulse := n 32 }

/-- The rectifier settings in use (R161). -/
def rectView (u : Option InUse) : RectView :=
  match u with
  | none => fallbackRect
  | some u => groupRect u.words

/-- L[i] of the firing law in use (R160). -/
def lawAt (u : Option InUse) (i : Nat) : Nat :=
  match u with
  | none => 0
  | some u => fieldN u.words .firingLaw i 0

/-! ## The views of the present state -/

/-- The device is in fallback operation exactly when no group is ACTIVE (R99). -/
def State.inFallback (s : State) : Bool := s.su.inUse.isNone

/-- The channel table view of the present frame. -/
def State.chan (s : State) (c : Fin 32) : ChanView := chanView s.straps s.su.inUse c

/-- The feeder record in use. -/
def State.feederRec (s : State) (k : Fin 6) : FeederView := feederView s.straps s.su.inUse k

/-- A row of the matrix in use. -/
def State.matrixRow (s : State) (r : Fin 40) : RowView := rowView s.su.inUse r

/-- A drive record in use. -/
def State.driveRec (s : State) (c : Fin 20) : DriveView := driveView s.straps s.su.inUse c

/-- The breaker is fitted under the drive settings in use. -/
def State.isFitted (s : State) (b : Fin 7) : Bool := fitted s.straps s.su.inUse b

/-- The reclose programme in use of a feeder. -/
def State.recloseRec (s : State) (k : Fin 6) : RecloseView := recloseView s.su.inUse k

/-- The rectifier settings in use. -/
def State.rect (s : State) : RectView := rectView s.su.inUse

/-- The output of a feeder's current channel (R65). -/
def State.currentOut (s : State) (k : Fin 6) : Output := s.output (s.feederRec k).current

/-- The output of a feeder's voltage channel (R65). -/
def State.voltageOut (s : State) (k : Fin 6) : Output := s.output (s.feederRec k).voltage

/-- The output of the bus voltage channel (R161). -/
def State.busOut (s : State) : Output := s.output s.rect.bus

/-- U_bus (R161). -/
def State.uBus (s : State) : Int := s.busOut.value

/-- I_rect, the sum of the bridge currents (R161). -/
def State.iRect (s : State) : Int := (s.output s.rect.bridge1).value + (s.output s.rect.bridge2).value

/-- I_rect is usable when neither bridge current output is INVALID (R161). -/
def State.iRectUsable (s : State) : Bool :=
  (s.output s.rect.bridge1).quality != .invalid && (s.output s.rect.bridge2).quality != .invalid

/-- A feeder is in service (R63). -/
def State.inService (s : State) (k : Fin 6) : Bool := (s.feederRec k).inService && !(s.feeder k).serviceOut

end Sys2Proof.Machine
end

