-- ==== Sys2Proof/Machine/Measure.lean ====
section
/-! DEFINITION. The Measurement Unit (03): the stage, the delay line and the forced INVALID counts of a channel. -/

namespace Sys2Proof.Machine

/-- What the SBI hands the stage of a channel, sorted into the three cases of R50. -/
inductive Raw
  | present (v : Int)
  | invalid
  | noSource
  deriving DecidableEq, Repr

/-- The case of a usable slot word: 8000h is the mark for a sample not taken (R50). -/
def rawOf (w : Word) : Raw := if w = 0x8000 then .invalid else .present w.toInt

/-- Scaling: (raw − offset) × gain / 4096, truncated toward zero (R51). -/
def scale (v : ChanView) (raw : Int) : Int := ((raw - v.offset) * v.gain).tdiv 4096

/-- The clamp (R52). -/
def clampStage (limit : Nat) (x : Int) : Output :=
  if x.natAbs < limit then ⟨x, .valid⟩
  else ⟨if x < 0 then -(limit : Int) else limit, .saturated⟩

/-- The hold count after the stage (R53, R54, R55). -/
def stageHold (v : ChanView) (ch : Channel) (raw : Raw) : Nat :=
  if v.kind = 0 then 4
  else
    match raw with
    | .present _ => 0
    | .invalid => min 4 (ch.hold + 1)
    | .noSource => 4

/-- The stage result (R50 to R55). -/
def stageResult (v : ChanView) (ch : Channel) (raw : Raw) : Output :=
  if v.kind = 0 then ⟨ch.lastGood, .invalid⟩
  else
    match raw with
    | .present x => clampStage v.limit (scale v x)
    | .invalid => ⟨ch.lastGood, if min 4 (ch.hold + 1) ≤ v.allowance then .held else .invalid⟩
    | .noSource => ⟨ch.lastGood, .invalid⟩

/-- The delay line with a new newest entry; the oldest falls out (R56). -/
def pushLine (l : Vector Output 8) (x : Output) : Vector Output 8 :=
  Vector.ofFn fun i => if i.val = 0 then x else l[i.val - 1]

/-- The fill count after a stage result (R57). -/
def fillAfter (v : ChanView) (fill : Nat) (q : Quality) : Nat :=
  if fill = 0 then 0 else if q = .valid then fill - 1 else v.delay + 1

/-- The entry a number of places back in the line. -/
def lineAt (l : Vector Output 8) (d : Nat) : Output := if h : d < 8 then l[d] else Output.none

/-- The output of the frame: the delayed entry, forced INVALID while a count stands (R56, R57, R58). -/
def outputOf (line : Vector Output 8) (delay fill blank : Nat) : Output :=
  if fill ≠ 0 ∨ blank ≠ 0 then ⟨(lineAt line delay).value, .invalid⟩ else lineAt line delay

/-- One frame's work of a channel (R50 to R58). -/
def Channel.work (v : ChanView) (raw : Raw) (ch : Channel) : Channel :=
  let r := stageResult v ch raw
  let line := pushLine ch.line r
  let fill := fillAfter v ch.fill r.quality
  { lastGood := if r.quality = .valid then r.value else ch.lastGood
    hold := stageHold v ch raw
    line := line
    fill := fill
    blank := ch.blank - 1
    out := outputOf line v.delay fill ch.blank
    prevOut := ch.out }

/-- The channel is rescaled between two views (R59). -/
def rescaled (old new : ChanView) : Bool :=
  old.gain != new.gain || old.offset != new.offset || old.delay != new.delay || (old.kind == 0) != (new.kind == 0)

/-- The effect of a change of the settings in use on a channel record (R57, R59). -/
def Channel.switch (old new : ChanView) (ch : Channel) : Channel :=
  if rescaled old new then
    { ch with
      blank := new.delay + 1
      hold := 4
      fill := if ch.fill ≠ 0 ∧ old.delay ≠ new.delay then new.delay + 1 else ch.fill }
  else ch

/-- The source slot of the channel has changed: its output is forced INVALID (R58). -/
def Channel.sourceChanged (v : ChanView) (ch : Channel) : Channel := { ch with blank := v.delay + 1 }

/-- The work of every channel on what the SBI hands over: the frame's measurement vector (R60). -/
def measure (raws : Fin 32 → Raw) (s : State) : State :=
  s.onMu fun m => mapAt m fun c ch => ch.work (s.chan c) (raws c)

/-- The work of one channel on a given input. -/
def measureOne (c : Fin 32) (raw : Raw) (s : State) : State :=
  s.onMu fun m => updAt m c (Channel.work (s.chan c) raw)

end Sys2Proof.Machine
end

