-- ==== Sys2Proof/Machine/Tables.lean ====
section
/-! DEFINITION. The loadable tables: field ranges and index ranges of LOAD and READ, the consistency checks of the slot
map (R12) and the cross-checks of an activation (R97). -/

namespace Sys2Proof.Machine

/-! ## Field ranges -/

/-- The range of a field as its field table gives it. -/
inductive FieldSpec
  /-- An unsigned word. -/
  | u (lo hi : Nat)
  /-- A signed word. -/
  | s (lo hi : Int)
  /-- An unsigned 32-bit field of two words. -/
  | wide (lo hi : Nat)
  /-- One of the values listed. -/
  | oneOf (vs : List Nat)
  deriving DecidableEq, Repr

/-- Every field of an entry lies in its range, and the entry has exactly the words of its fields. -/
def entryOk : List FieldSpec → List Word → Bool
  | [], [] => true
  | .u lo hi :: fs, w :: ws => decide (lo ≤ w.toNat ∧ w.toNat ≤ hi) && entryOk fs ws
  | .s lo hi :: fs, w :: ws => decide (lo ≤ w.toInt ∧ w.toInt ≤ hi) && entryOk fs ws
  | .wide lo hi :: fs, w :: v :: ws =>
    decide (lo ≤ w.toNat * 65536 + v.toNat ∧ w.toNat * 65536 + v.toNat ≤ hi) && entryOk fs ws
  | .oneOf vs :: fs, w :: ws => vs.contains w.toNat && entryOk fs ws
  | _, _ => false

/-- The field table of a group table: CHANNELS (R47), FEEDERS (R61), MATRIX (R93), RECLOSE (R135), DRIVE (R112),
RECTIFIER (R159), FIRING_LAW (R160), STATION (R94). -/
def fieldTable : GroupTable → List FieldSpec
  | .channels => [.u 0 3, .u 1 65535, .s (-32768) 32767, .u 1 65535, .u 0 7, .u 0 3]
  | .feeders =>
    [.u 0 1, .u 0 31, .u 0 31, .u 1 65535, .u 1 16, .u 1 65535, .u 0 65535, .u 1 65535, .u 1 255, .u 1 4000,
     .u 0 65535, .u 1 65535, .u 1 3600, .u 50 100, .u 10 100, .u 1 65535, .u 1 10000, .u 0 1,
     .u 0 1, .u 0 15, .u 0 15, .u 0 1, .u 0 15, .u 0 15]
  | .matrix => [.u 0 127, .u 0 63, .u 0 1, .u 0 1, .u 0 1, .u 0 3]
  | .reclose =>
    [.u 0 4, .u 100 60000, .u 100 60000, .u 100 60000, .u 100 60000, .u 1 1000, .oneOf [1, 2, 4, 8, 16, 32, 64],
     .wide 1 4000000, .u 1 65535, .u 1 65535, .u 0 65535, .u 1 600]
  | .drive =>
    [.u 1 50, .oneOf [10, 15, 20, 25, 30, 35, 40, 45, 50, 55, 60, 65, 70, 75, 80, 85, 90], .u 1 1000, .u 0 60, .u 0 1]
  | .rectifier =>
    [.u 1 65535, .u 1 65535, .u 1 65535, .u 1 65535, .u 0 100, .u 0 255, .u 0 255, .u 500 1200, .u 0 1500, .u 0 1500,
     .u 0 1500, .u 1 10000, .u 1 200, .u 1 100, .u 1 65535, .u 0 1000, .u 1 65535, .u 1 65535, .u 1 65535, .u 0 65535,
     .u 100 65535, .wide 1 10000000, .u 1 3600, .u 1 65535, .u 1 65535, .u 0 31, .u 0 31, .u 0 31, .u 0 31, .u 0 31,
     .u 0 31, .u 600 1500]
  | .firingLaw => [.u 0 1500]
  | .station => [.u 0 5000, .u 20 500] ++ List.replicate 16 (.u 0 65535)

/-- Every one of `count` entries of `width` words passes a check. -/
def everyEntry (check : Nat → List Word → Bool) (width count : Nat) (ws : List Word) : Bool :=
  (List.range count).all fun i => check i ((ws.drop (width * i)).take width)

/-- First index and last index lie in `lo..hi`, with a count of 1 to the number of entries there. -/
def indexOk (lo hi first count : Nat) : Bool :=
  decide (1 ≤ count ∧ count ≤ hi + 1 - lo ∧ lo ≤ first ∧ first + count ≤ hi + 1)

/-! ## The tables of R36 -/

/-- The code of a table identifier (R36). -/
def TableId.code : TableId → Nat
  | .group t => tableCode t
  | .slotMap => 0x10 | .indication => 0x11 | .recorder => 0x12 | .counters => 0x13

/-- The table identifier with a code; none where the code is not in the list of R36. -/
def tableOfCode (b : Byte) : Option TableId :=
  match b.toNat with
  | 1 => some (.group .channels) | 2 => some (.group .feeders) | 3 => some (.group .matrix)
  | 4 => some (.group .reclose) | 5 => some (.group .drive) | 6 => some (.group .rectifier)
  | 7 => some (.group .firingLaw) | 8 => some (.group .station)
  | 0x10 => some .slotMap | 0x11 => some .indication | 0x12 => some .recorder | 0x13 => some .counters
  | _ => none

/-- Words per entry of a table (R36). -/
def TableId.width : TableId → Nat
  | .group t => tableWidth t
  | .slotMap => 3 | .indication => 1 | .recorder => 10 | .counters => 9

/-- The first index of a table. Entries 0, 46 and 47 of the slot map cannot be loaded or read (R12, R14). -/
def TableId.lowest : TableId → Nat
  | .slotMap => 1
  | _ => 0

/-- The last index of a table. -/
def TableId.highest : TableId → Nat
  | .group t => tableSize t - 1
  | .slotMap => 45 | .indication => 15 | .recorder => 0 | .counters => 15

/-- A group table needs group A or B, a station table or a programme needs none (R33, R36). -/
def TableId.wantsGroup : TableId → Bool
  | .group _ => true
  | _ => false

/-! ## Slot map (R10, R12) -/

/-- A slot map entry as three words. -/
def slotEntryOf (ws : List Word) : SlotEntry := ⟨ws.getD 0 0, ws.getD 1 0, ws.getD 2 0⟩

/-- The words of a slot map entry. -/
def SlotEntry.words (e : SlotEntry) : List Word := [e.kind, e.tag, e.target]

/-- The target of an UNUSED entry: R10 states ranges for the other kinds only (log 10). -/
def unusedTargetOk (t : Nat) : Bool := if t ≤ 31 then true else Config.unusedTargetAccepted t

/-- Step 3 of R12: every field in its range of R10, and a COMMAND_OUT entry carries the device's own tag. -/
def slotEntryOk (own : BitVec 4) (e : SlotEntry) : Bool :=
  if e.kind = 0 then decide (e.tag.toNat ≤ 15) && unusedTargetOk e.target.toNat
  else if e.kind = 1 then decide (e.tag.toNat ≤ 15 ∧ e.target.toNat ≤ 31)
  else if e.kind = 2 then decide (e.tag.toNat ≤ 15 ∧ e.target.toNat ≤ 15)
  else if e.kind = 3 then decide (e.tag.toNat = own.toNat ∧ e.target.toNat ≤ 15)
  else false

/-- The map as it would stand after the telegram (step 4 of R12). -/
def mapWith (m : Vector SlotEntry 48) (first : Nat) (ws : List Word) (count : Nat) : Vector SlotEntry 48 :=
  Vector.ofFn fun i =>
    if first ≤ i.val ∧ i.val < first + count then slotEntryOf ((ws.drop (3 * (i.val - first))).take 3) else m[i]

/-- Two entries of one class share a target (R12). -/
def sharesTarget (a b : SlotEntry) : Bool := a.kind != 0 && a.kind == b.kind && a.target == b.target

/-- Each channel, indication word and command word is the target of at most one entry (R10, step 4 of R12). -/
def mapUnique (m : Vector SlotEntry 48) : Bool :=
  (List.finRange 48).all fun i => (List.finRange 48).all fun j => i == j || !sharesTarget m[i] m[j]

/-! ## Recorder and counter programmes (R188, R196) -/

/-- The field table of the recorder programme (R188). -/
def recorderFields : List FieldSpec :=
  List.replicate 8 (.u 0 31) ++ [.oneOf [1, 2, 4, 8], .oneOf [0, 25, 50, 75]]

/-- The source codes and the modes that suit each source kind (R196). -/
def counterFields (kind : Nat) : List FieldSpec :=
  let rest : List FieldSpec := [.u 0 1, .u 0 65535, .u 0 15, .u 0 4, .u 0 5]
  match kind with
  | 0 => [.u 0 0, .u 0 0, .u 0 127, .u 0 2] ++ rest
  | 1 => [.u 1 1, .oneOf ((List.range 41).filter fun c => c != 0 && c != 26), .u 0 127, .u 0 0] ++ rest
  | 2 => [.u 2 2, .u 1 5, .u 0 127, .u 1 1] ++ rest
  | 3 => [.u 3 3, .u 1 4, .u 0 127, .u 2 2] ++ rest
  | _ => []

/-- An entry of the counter programme passes the checks of R196. -/
def counterEntryOk (ws : List Word) : Bool := entryOk (counterFields (ws.getD 0 0).toNat) ws

/-! ## Activation cross-checks (R97) -/

/-- A failed check: the table identifier and the index of the entry at which it was found. -/
structure CheckFailure where
  table : Nat
  index : Nat
  deriving DecidableEq, Repr

/-- The words of one entry of a group table. -/
def entryWords (g : Contents) (t : GroupTable) (i : Nat) : List Word :=
  takeWords g (tableBase t + tableWidth t * i) (tableWidth t)

/-- The kind of a channel in the group's own CHANNELS. -/
def kindIn (g : Contents) (c : Nat) : Nat := fieldN g .channels c 0

/-- Two feeders name the same intertrip-out bit. -/
def sameOutBit (g : Contents) (i k : Nat) : Bool :=
  fieldB g .feeders i 18 && fieldN g .feeders i 19 == fieldN g .feeders k 19
    && fieldN g .feeders i 20 == fieldN g .feeders k 20

/-- The cross-checks of FEEDERS entry k, in the order listed (R97). -/
def feederChecks (g : Contents) (k : Nat) : List Bool :=
  let n := fieldN g .feeders k
  [ decide (n 6 ≤ n 5 ∧ n 8 ≤ n 9),
    !fieldB g .feeders k 0 || (kindIn g (n 1) == 1 && kindIn g (n 2) == 2),
    !fieldB g .feeders k 18 || (List.range k).all fun i => !sameOutBit g i k,
    !fieldB g .feeders k 18 || (field g .station 0 (2 + n 19)).getLsbD (n 20) ]

/-- The cross-checks of the RECTIFIER entry, in the order listed (R97); α_fb is that of the FB strap row. -/
def rectifierChecks (p : Straps) (g : Contents) : List Bool :=
  let n := fieldN g .rectifier 0
  [ decide (n 8 ≤ n 10 ∧ n 10 ≤ n 9),
    decide (n 8 ≤ fallbackAlpha p ∧ fallbackAlpha p ≤ n 9),
    decide (n 1 ≤ n 0 ∧ n 0 ≤ n 2),
    decide (n 19 < n 18),
    kindIn g (n 26) == 2 && kindIn g (n 27) == 1 && kindIn g (n 28) == 1
      && kindIn g (n 29) == 3 && kindIn g (n 30) == 3 && kindIn g (n 31) == 3 ]

/-- Every bit of the feeder-owned masks is named by a feeder with intertrip-out present (R97). -/
def masksClaimed (g : Contents) : Bool :=
  (List.range 16).all fun w => (List.range 16).all fun b =>
    !(field g .station 0 (2 + w)).getLsbD b ||
      (List.range 6).any fun k =>
        fieldB g .feeders k 18 && fieldN g .feeders k 19 == w && fieldN g .feeders k 20 == b

/-- The checks of entry i after its range check (R97). -/
def crossChecks (p : Straps) (g : Contents) (t : GroupTable) (i : Nat) : List Bool :=
  match t with
  | .feeders => feederChecks g i
  | .matrix => if 36 ≤ i then [field g .matrix i 4 == 0] else []
  | .rectifier => rectifierChecks p g
  | .firingLaw => if 1 ≤ i then [decide (fieldN g .firingLaw i 0 ≤ fieldN g .firingLaw (i - 1) 0)] else []
  | .station => [masksClaimed g]
  | _ => []

/-- An entry passes its range check and then its cross-checks. -/
def entryPasses (p : Straps) (g : Contents) (t : GroupTable) (i : Nat) : Bool :=
  entryOk (fieldTable t) (entryWords g t i) && (crossChecks p g t i).all id

/-- The first failure of verification: tables in the order of R89, entries in index order (R97). -/
def firstFailure (p : Straps) (g : Contents) : Option CheckFailure :=
  (allTables.flatMap fun t => (List.range (tableSize t)).map fun i => (t, i)).findSome? fun (t, i) =>
    if entryPasses p g t i then none else some ⟨tableCode t, i⟩

end Sys2Proof.Machine
end

