-- ==== Sys2Proof/Machine/Telegram.lean ====
section
/-! DEFINITION. Telegrams: the layouts of R42 to R45, the checks of the SCU (R30, R33, R34, R35), replies and event
telegrams as bytes (R38, R39, R44, R45). -/

namespace Sys2Proof.Machine

/-! ## The service word (R42) -/

/-- The fields of a service word. -/
structure ServiceWord where
  data : Byte
  sot : Bool
  wv : Bool
  wt : Bool
  abort : Bool
  deriving DecidableEq, Repr

/-- The fields read from the data bits of slot 46. The four high bits are ignored (R25). -/
def serviceOf (w : Word) : ServiceWord :=
  ⟨w.setWidth 8, w.getLsbD 8, w.getLsbD 9, w.getLsbD 10, w.getLsbD 11⟩

/-- A flag at a bit of a word. -/
def bitAt (b : Bool) (n : Nat) : Word := if b then 1#16 <<< n else 0

/-- The data bits of a service word. -/
def ServiceWord.word (v : ServiceWord) : Word :=
  v.data.setWidth 16 ||| bitAt v.sot 8 ||| bitAt v.wv 9 ||| bitAt v.wt 10 ||| bitAt v.abort 11

/-! ## Types, codes and lengths -/

/-- The type byte of a down telegram (R33). -/
def Request.typeByte : Request → Byte
  | .load .. => 1
  | .read .. => 2
  | .activate .. => 3
  | .queryStatus | .queryMeasurements | .queryFeeder _ | .queryBreaker _ | .queryRectifier | .queryCounters
  | .queryRecordInfo | .queryRecord .. => 5
  | .setTime .. => 6
  | .restart => 7
  | .openBreaker _ | .closeFeeder _ | .closeAc | .openAll | .clearLatch _ | .resetLockout _ | .setpointStep _
  | .setOutput .. | .feederService .. | .triggerRecord | .releaseRecord _ | .counterFreeze | .counterUnfreeze
  | .counterReset _ | .counterPreload .. => 4

/-- The code of a result (R44): 00h to 0Dh in the order of R31. -/
def Result.code : Result → Byte
  | .done => 0 | .crcError => 1 | .length => 2 | .unknownType => 3 | .badTable => 4 | .badIndex => 5 | .badValue => 6
  | .inUse => 7 | .busy => 8 | .refusedState => 9 | .refusedInterlock => 10 | .cooling => 11 | .checkFailed => 12
  | .crcMismatch => 13

/-- What the checks of a telegram come to: a result at once, or the request in hand. -/
inductive Checked
  | refuse (r : Result)
  | accept (q : Request)
  deriving DecidableEq, Repr

/-- A LOAD from its payload (R30 step 3, R43). -/
def parseLoad : List Byte → Checked
  | [] => .refuse .length
  | t :: rest =>
    match tableOfCode t with
    | none => .refuse .badTable
    | some t =>
      match rest with
      | g :: fh :: fl :: ch :: cl :: body =>
        if body.length = 2 * (wordOf ch cl).toNat * t.width then
          .accept (.load t g (wordOf fh fl) (wordOf ch cl) (wordsOf body))
        else .refuse .length
      | _ => .refuse .length

/-- A READ from its payload. -/
def parseRead : List Byte → Checked
  | [] => .refuse .length
  | t :: rest =>
    match tableOfCode t with
    | none => .refuse .badTable
    | some t =>
      match rest with
      | [g, fh, fl, ch, cl] => .accept (.read t g (wordOf fh fl) (wordOf ch cl))
      | _ => .refuse .length

/-- A COMMAND from its subcode and operands (R34, R43). -/
def parseCommand (sub : Byte) (ops : List Byte) : Checked :=
  match sub.toNat, ops with
  | 1, [b] => .accept (.openBreaker b)
  | 2, [k] => .accept (.closeFeeder k)
  | 3, [] => .accept .closeAc
  | 4, [] => .accept .openAll
  | 5, [b] => .accept (.clearLatch b)
  | 6, [k] => .accept (.resetLockout k)
  | 7, [h, l] => .accept (.setpointStep (wordOf h l))
  | 8, [w, b, v] => .accept (.setOutput w b v)
  | 9, [k, f] => .accept (.feederService k f)
  | 10, [] => .accept .triggerRecord
  | 11, [b] => .accept (.releaseRecord b)
  | 12, [] => .accept .counterFreeze
  | 13, [] => .accept .counterUnfreeze
  | 14, [h, l] => .accept (.counterReset (wordOf h l))
  | 15, [n, a, b, c, d, e, f] => .accept (.counterPreload n (wordOf a b ++ wordOf c d ++ wordOf e f))
  | n, _ => .refuse (if 1 ≤ n ∧ n ≤ 15 then .length else .badValue)

/-- A QUERY from its subject and operands (R35, R43). -/
def parseQuery (subject : Byte) (ops : List Byte) : Checked :=
  match subject.toNat, ops with
  | 1, [] => .accept .queryStatus
  | 2, [] => .accept .queryMeasurements
  | 3, [k] => .accept (.queryFeeder k)
  | 4, [b] => .accept (.queryBreaker b)
  | 5, [] => .accept .queryRectifier
  | 6, [] => .accept .queryCounters
  | 7, [] => .accept .queryRecordInfo
  | 8, [b, fh, fl, ch, cl] => .accept (.queryRecord b (wordOf fh fl) (wordOf ch cl))
  | n, _ => .refuse (if 1 ≤ n ∧ n ≤ 8 then .length else .badValue)

/-- Steps 2 and 3 of R30: the type and the payload's length for it. -/
def parseTyped (type : Byte) (payload : List Byte) : Checked :=
  match type.toNat, payload with
  | 1, p => parseLoad p
  | 2, p => parseRead p
  | 3, [g, h, l] => .accept (.activate g (wordOf h l))
  | 4, sub :: ops => parseCommand sub ops
  | 5, subject :: ops => parseQuery subject ops
  | 6, [dh, dl, a, b, c, d] => .accept (.setTime (wordOf dh dl) (wordOf a b ++ wordOf c d))
  | 7, [] => .accept .restart
  | n, _ => .refuse (if 1 ≤ n ∧ n ≤ 7 then .length else .unknownType)

/-! ## The operand checks of the SCU (R33, R34, R35) -/

/-- A group field that the table does not allow (R33, R36): above 2 BAD_VALUE, otherwise BAD_TABLE. -/
def groupCheck (t : TableId) (g : Byte) : Option Result :=
  if 2 < g.toNat then some .badValue
  else if t.wantsGroup == (g == 0) then some .badTable
  else none

/-- The steps of SETPOINT STEP (R34). -/
def stepAllowed (w : Word) : Bool := [5, 10, 20, -5, -10, -20].contains w.toInt

/-- A check that gives a result when it does not hold. -/
def unlessOk (ok : Bool) (r : Result) : Option Result := if ok then none else some r

/-- The operand checks of R33, R34, R35 and R37 with the payload lengths of R29 and R43; the first failure. -/
def scuCheck : Request → Option Result
  | .load t g _ count ws =>
    (unlessOk (ws.length == count.toNat * t.width && 6 + 2 * ws.length ≤ 1024) .length).or (groupCheck t g)
  | .read t g _ count => (groupCheck t g).or (unlessOk (2 * (count.toNat * t.width) ≤ 1016) .length)
  | .activate g _ => unlessOk (g == 1 || g == 2) .badValue
  | .openBreaker b | .clearLatch b | .queryBreaker b => unlessOk (b.toNat ≤ 6) .badValue
  | .closeFeeder k | .resetLockout k | .queryFeeder k => unlessOk (k.toNat ≤ 5) .badValue
  | .setpointStep w => unlessOk (stepAllowed w) .badValue
  | .setOutput w b v => unlessOk (w.toNat ≤ 15 && b.toNat ≤ 15 && v.toNat ≤ 1) .badValue
  | .feederService k f => unlessOk (k.toNat ≤ 5 && f.toNat ≤ 1) .badValue
  | .releaseRecord b => unlessOk (b.toNat ≤ 1) .badValue
  | .counterPreload n v => unlessOk (n.toNat ≤ 15 && v.toNat < 2 ^ 40) .badValue
  | .queryRecord b first count =>
    (unlessOk (b.toNat ≤ 1 && 1 ≤ count.toNat && count.toNat ≤ 48) .badValue).or
      (unlessOk (first.toNat + count.toNat ≤ 2048) .badIndex)
  | .setTime _ ms => unlessOk (ms.toNat ≤ 86399999) .badValue
  | .closeAc | .openAll | .triggerRecord | .counterFreeze | .counterUnfreeze | .counterReset _ | .queryStatus
  | .queryMeasurements | .queryRectifier | .queryCounters | .queryRecordInfo | .restart => none

/-- All checks of a complete telegram (R30), given as type, two length bytes, payload and CRC. -/
def checkTelegram (bytes : List Byte) : Checked :=
  let n := bytes.length
  if crc (bytes.take (n - 2)) ≠ wordOf (bytes.getD (n - 2) 0) (bytes.getD (n - 1) 0) then .refuse .crcError
  else
    match parseTyped (bytes.getD 0 0) ((bytes.take (n - 2)).drop 3) with
    | .refuse r => .refuse r
    | .accept q =>
      match scuCheck q with
      | some r => .refuse r
      | none => .accept q

/-! ## Up telegrams (R38, R39, R44, R45) -/

/-- The framing of a telegram: type, length, payload, CRC (R38). -/
def telegramBytes (type : Byte) (payload : List Byte) : List Byte :=
  let body := type :: wordBytes (word1 payload.length) ++ payload
  body ++ wordBytes (crc body)

/-- A REPLY telegram (R44). -/
def Reply.telegram (r : Reply) : List Byte := telegramBytes Config.replyType (r.echo :: r.result.code :: r.data)

/-- A byte of a number. -/
def byte1 (x : Nat) : Byte := BitVec.ofNat 8 x

/-- An event record as bytes (R45). -/
def EventRecord.bytes (r : EventRecord) : List Byte :=
  let head := bytesOf ([word1 r.seq, word1 r.time.day] ++ word2 r.time.ms) ++
    [byte1 r.time.frame, byte1 r.msg.kind.code, byte1 r.msg.index, byte1 r.msg.code.code]
  match r.msg.value with
  | none => head ++ [byte1 r.msg.cls]
  | some v => head ++ [byte1 r.msg.cls ||| 0x80] ++ bytesOf (word2 v)

/-- An EVENT telegram with these records (R45). -/
def eventTelegram (rs : List EventRecord) : List Byte :=
  telegramBytes Config.eventType (byte1 rs.length :: rs.flatMap EventRecord.bytes)

end Sys2Proof.Machine
end

