-- ==== Sys2Proof/Machine/Bus.lean ====
section
/-! DEFINITION. The Station Bus Interface (01): synchronisation, tag checks, indication words, command words and what
the device drives on the bus. -/

namespace Sys2Proof.Machine

/-! ## Synchronisation (R4 to R8) -/

/-- The multiframe position of the next frame (R6). -/
def nextPosition (n : Nat) : Nat := (n + 1) % 32

/-- The blind time one frame on, saturating (R7). -/
def nextBlind (b : Sbi) : Nat := if b.blindFlag then min eventMax (b.blind + 1) else b.blind

/-- Slot 0 is not silent and carries frame number 0 (R5, R42). -/
def opensMultiframe (w : SlotWord) : Bool := w != SlotWord.silent && w.data &&& 0x1F == 0

/-- Entry into LOCKING on the third correctly spaced frame sync (R4). -/
def Sbi.enterLocking (b : Sbi) : Sbi := { b with sync := .locking, searchCount := 3 }

/-- Entry into RUN from LOCKING (R5, R7, R8). -/
def Sbi.enterRun (b : Sbi) : Sbi :=
  { b with sync := .run, position := 0, missing := 0, blindFlag := false, blind := 0, lostRaised := false }

/-- Loss of the bus: through LOST to SEARCH within the frame (R6, R7). The multiframe position stands still in this
frame already, and STATUS word 6 shows it so: R6 does not say whether it advances in the frame of the tenth missing
sync (log 13, DEDUCED). The missing count stays at 10 (log 12, DEDUCED). -/
def Sbi.lose (b : Sbi) : Sbi :=
  { b with sync := .search, searchCount := 0, missing := 10, blindFlag := true, blind := 1 }

/-- A frame with its sync at the expected place in RUN or HOLDOVER (R6). -/
def Sbi.follow (marker : Bool) (b : Sbi) : Sbi :=
  { b with sync := .run, missing := 0, position := if marker then 0 else nextPosition b.position }

/-- A frame without a sync at the expected place in RUN or HOLDOVER, short of the tenth (R6). -/
def Sbi.holdOver (b : Sbi) : Sbi :=
  { b with sync := .holdover, missing := b.missing + 1, position := nextPosition b.position }

/-- The event of the loss of the bus (R6). -/
def busLostEvent : EventMsg := ⟨.bus, 0, .busLost, 2, none⟩

/-- One frame of a follower's synchronisation, with its events (R4 to R7). The third correctly spaced sync enters
LOCKING and no more: a marker in that same frame, with frame number 0 in slot 0, does not enter RUN; R5 looks for the
marker in LOCKING (log 40, DESIGN CHOICE). -/
def Sbi.syncFrame (inp : FrameInput) (b : Sbi) : Sbi × List EventMsg :=
  match b.sync with
  | .search | .lost =>
    let b := { b with sync := .search, blind := nextBlind b }
    match inp.sync with
    | .missing => ({ b with searchCount := 0 }, [])
    | .elsewhere _ => ({ b with searchCount := 1 }, [])
    | .atPlace _ =>
      if b.searchCount + 1 = 3 then (b.enterLocking, []) else ({ b with searchCount := b.searchCount + 1 }, [])
  | .locking =>
    match inp.sync with
    | .missing | .elsewhere _ => ({ b with sync := .search, searchCount := 0, blind := nextBlind b }, [])
    | .atPlace marker =>
      if marker && opensMultiframe inp.slots[0] then (b.enterRun, [⟨.bus, 0, .busSync, 3, some b.blind⟩])
      else ({ b with blind := nextBlind b }, [])
  | .run =>
    match inp.sync with
    | .missing | .elsewhere _ => (Sbi.holdOver { b with missing := 0 }, [])
    | .atPlace marker => (b.follow marker, [])
  | .holdover =>
    match inp.sync with
    | .missing | .elsewhere _ => if b.missing + 1 = 10 then (b.lose, [busLostEvent]) else (b.holdOver, [])
    | .atPlace marker => (b.follow marker, [])

/-- The synchronisation of the frame. A master counts its own frames from frame 0 (R3). -/
def syncStep (inp : FrameInput) (s : State) : State :=
  match s.straps.role with
  | .master => s.onSbi fun b => { b with position := if s.fresh then 0 else nextPosition b.position }
  | .follower =>
    let r := s.sbi.syncFrame inp
    emitAll .sbi r.2 (s.onSbi fun _ => r.1)

/-- The BUS_LOST row (R93). -/
def busLostRow : Fin 40 := 36

/-- The blind time has reached the threshold and the row may be raised (R8). -/
def State.blindRowDue (s : State) : Bool :=
  s.sbi.blindFlag && !s.sbi.lostRaised && tBlind s.su.inUse != 0 && decide (tBlind s.su.inUse * 10 ≤ s.sbi.blind)

/-- The SBI raises BUS_LOST once per loss (R8), with the blind time (R109). -/
def raiseBusLost (s : State) : State :=
  raiseRow busLostRow s.sbi.blind (s.onSbi fun b => { b with lostRaised := true })

/-- The check of the blind time in a frame (R8). -/
def blindCheck (s : State) : State := if s.blindRowDue then raiseBusLost s else s

/-! ## Tag check (R2, R15, R16) -/

/-- The classes of a received slot (R2). -/
inductive SlotClass
  | usable | unusable | silent
  deriving DecidableEq, Repr

/-- The class of a slot word against its expected tag (R2). -/
def classify (tag : Nat) (w : SlotWord) : SlotClass :=
  if w = SlotWord.silent then .silent else if w.tag.toNat = tag then .usable else .unusable

/-- The gateway's tag, expected in slot 46 (R2). -/
def gatewayTag : Nat := 0

/-- The slot is checked: SAMPLE_IN, INDICATION_IN, or slot 46 (R15). -/
def checkedSlot (m : Vector SlotEntry 48) (i : Fin 48) : Bool := i.val == 46 || m[i].kind == 1 || m[i].kind == 2

/-- The expected tag of a slot (R2). -/
def expectedTag (m : Vector SlotEntry 48) (i : Fin 48) : Nat := if i.val = 46 then gatewayTag else m[i].tag.toNat

/-- The mismatch count and flag of a slot after a frame, and whether SLOT_CONFLICT is due (R15, R16). -/
def SlotCheck.after (k : SlotCheck) : SlotClass → SlotCheck × Bool
  | .usable => (⟨0, false⟩, false)
  | .silent => (⟨0, k.reported⟩, false)
  | .unusable =>
    let n := min 3 (k.count + 1)
    (⟨n, k.reported || n == 3⟩, n == 3 && !k.reported)

/-- SLOT_CONFLICT of a slot with the tag received (R16). -/
def conflictEvent (i : Fin 48) (tag : BitVec 4) : EventMsg :=
  ⟨.bus, 0, .slotConflict, 2, some (16 * i.val + tag.toNat : Nat)⟩

/-- One received word of one checked slot (R15, R16). -/
def checkSlot (i : Fin 48) (w : SlotWord) (s : State) : State :=
  if checkedSlot s.sbi.map i then
    let r := s.sbi.checks[i].after (classify (expectedTag s.sbi.map i) w)
    let s := s.onSbi fun b => { b with checks := b.checks.set i r.1 }
    if r.2 then emit .sbi (conflictEvent i w.tag) s else s
  else s

/-- The tag checks of a RUN frame, in slot order. -/
def checkSlots (inp : FrameInput) (s : State) : State :=
  if s.sbi.sync = .run then forAll 48 (fun i s => checkSlot i inp.slots[i] s) s else s

/-! ## Sources of channels and indication words (R9, R10) -/

/-- The slot whose entry of a kind has this target. -/
def slotFor (m : Vector SlotEntry 48) (kind target : Nat) : Option (Fin 48) :=
  (List.finRange 48).find? fun i => m[i].kind.toNat == kind && m[i].target.toNat == target

/-- The slot and expected tag of a channel or indication word, as R13 compares them. -/
def sourceOf (m : Vector SlotEntry 48) (kind target : Nat) : Option (Fin 48 × Word) :=
  (slotFor m kind target).map fun i => (i, m[i].tag)

/-- The data of a slot when it is usable. -/
def usableData (m : Vector SlotEntry 48) (inp : FrameInput) (i : Fin 48) : Option Word :=
  if classify (expectedTag m i) inp.slots[i] = .usable then some inp.slots[i].data else none

/-- What the SBI hands the MU for a channel (R9, R50). -/
def rawFor (b : Sbi) (inp : FrameInput) (c : Fin 32) : Raw :=
  match b.sync with
  | .run =>
    match slotFor b.map 1 c.val with
    | none => .noSource
    | some i =>
      match usableData b.map inp i with
      | some w => rawOf w
      | none => .invalid
  | .holdover => .invalid
  | .search | .locking | .lost => .noSource

/-- The usable value of an indication word in the frame (R9, R15). -/
def indicationFor (b : Sbi) (inp : FrameInput) (w : Fin 16) : Option Word :=
  if b.sync = .run then (slotFor b.map 2 w.val).bind (usableData b.map inp) else none

/-- The service-in word of the frame (R9, R25). -/
def serviceIn (b : Sbi) (inp : FrameInput) : Option ServiceWord :=
  if b.sync = .run then (usableData b.map inp 46).map serviceOf else none

/-! ## Indication words (R17, R18, R19) -/

/-- A frame with a usable value (R17, R18). -/
def Indication.receive (now : Clock) (v : Word) (d : Indication) : Indication :=
  let count := if 1 ≤ d.candCount ∧ v = d.candidate then 2 else 1
  if count = 2 then
    { d with
      gap := 0, candidate := v, candCount := 2, agreed := v, valid := true
      changed := if v = d.agreed then d.changed else now }
  else { d with gap := 0, candidate := v, candCount := 1 }

/-- A frame without a usable slot (R17, R18). -/
def Indication.skip (d : Indication) : Indication :=
  let g := min 10 (d.gap + 1)
  { d with candCount := 0, gap := g, valid := d.valid && g != 10 }

/-- INDICATION_CHANGE is due: the agreed value has changed in a bit of the report mask (R19). -/
def reportsChange (before after : Indication) : Bool := (before.agreed ^^^ after.agreed) &&& before.mask != 0

/-- One frame of one indication word, with INDICATION_CHANGE when a masked bit changes (R17, R18, R19). -/
def indicationStep (v : Option Word) (i : Fin 16) (s : State) : State :=
  let d := s.sbi.words[i]
  let d' := match v with
    | some v => d.receive s.scu.clock v
    | none => d.skip
  let s := s.onSbi fun b => { b with words := b.words.set i d' }
  if reportsChange d d' then emit .sbi ⟨.indication, i.val, .indicationChange, 3, some d'.agreed.toNat⟩ s else s

/-- One frame of the 16 indication words. -/
def indicationsStep (inp : FrameInput) (s : State) : State :=
  forAll 16 (fun i s => indicationStep (indicationFor s.sbi inp i) i s) s

/-- A bit of an indication word that is VALID and set (R18). -/
def State.indicationBit (s : State) (word bit : Nat) : Bool :=
  match s.sbi.words[word]? with
  | some d => d.valid && d.agreed.getLsbD bit
  | none => false

/-! ## Held master status (R3) -/

/-- A follower in RUN holds the status of a slot 0 that is not silent (R3, R42). -/
def holdMasterStatus (inp : FrameInput) (s : State) : State :=
  let w := inp.slots[0]
  if s.straps.role = .follower ∧ s.sbi.sync = .run ∧ w ≠ SlotWord.silent then
    s.onSbi fun b => { b with heldTimeSet := w.data.getLsbD 8, heldFallback := w.data.getLsbD 9 }
  else s

/-! ## What the device drives (R9, R20, R42) -/

/-- The device drives its slots in RUN and HOLDOVER (R9). -/
def State.driving (s : State) : Bool := s.sbi.sync == .run || s.sbi.sync == .holdover

/-- Slot 0 of a master (R3, R42). -/
def masterWord (s : State) : Word :=
  BitVec.ofNat 16 s.sbi.position ||| bitAt s.scu.timeSet 8 ||| bitAt s.inFallback 9

/-- The word driven in a slot, if any: command words as they stood at the start of the frame (R20). -/
def slotDriven (commands : Vector Word 16) (service : Word) (s : State) (i : Fin 48) : Option SlotWord :=
  if !s.driving then none
  else if i.val = 47 then some ⟨service, s.straps.addr⟩
  else if i.val = 0 then (if s.straps.role = .master then some ⟨masterWord s, s.straps.addr⟩ else none)
  else if s.sbi.map[i].kind = 3 then some ⟨wordAt commands s.sbi.map[i].target.toNat, s.straps.addr⟩
  else none

/-- The frame sync a master drives; `some true` is the multiframe marker (R1, R3). -/
def syncDriven (s : State) : Option Bool :=
  if s.straps.role = .master then some (s.sbi.position == 0) else none

/-- The device drives its slots of the frame. -/
def transmit (commands : Vector Word 16) (service : Word) (s : State) : State :=
  s.onSbi fun b => { b with sent := Vector.ofFn (slotDriven commands service s), sentSync := syncDriven s }

/-! ## Command words (R21, R22) -/

/-- A word with one bit at a level. -/
def setBit (w : Word) (n : Nat) (v : Bool) : Word := if v then w ||| (1#16 <<< n) else w &&& ~~~(1#16 <<< n)

/-- Set one bit of one command word. -/
def setCommandBit (word bit : Nat) (v : Bool) (s : State) : State :=
  s.onSbi fun b =>
    { b with commands := Vector.ofFn fun i => if i.val = word then setBit b.commands[i] bit v else b.commands[i] }

/-- The word with every bit whose owner differs between two settings set to 0 (R21). -/
def ownedAnew (p : Straps) (old new : Option InUse) (i : Nat) (w : Word) : Word :=
  (List.range 16).foldl (fun w n => if bitOwner p old i n = bitOwner p new i n then w else setBit w n false) w

/-- The owner changes of a change of the settings in use (R21). -/
def changeOwners (old : Option InUse) (s : State) : State :=
  s.onSbi fun b => { b with commands := mapAt b.commands fun i w => ownedAnew s.straps old s.su.inUse i.val w }

/-! ## Slot map and report masks (R13, R19) -/

/-- The effect of an accepted SLOT_MAP LOAD, from the next frame (R13). -/
def storeSlotMap (first count : Nat) (ws : List Word) (s : State) : State :=
  let old := s.sbi.map
  let new := mapWith old first ws count
  let s := s.onSbi fun b =>
    { b with
      map := new
      checks := mapAt b.checks fun i k => if new[i] = old[i] then k else ⟨0, false⟩
      words := mapAt b.words fun i d =>
        if sourceOf new 2 i.val = sourceOf old 2 i.val then d else { d with candCount := 0 } }
  s.onMu fun m => mapAt m fun c ch =>
    if sourceOf new 1 c.val = sourceOf old 1 c.val then ch else ch.sourceChanged (s.chan c)

/-- The effect of an accepted INDICATION LOAD, from the next frame (R19). -/
def storeMasks (first : Nat) (ws : List Word) (s : State) : State :=
  s.onSbi fun b =>
    { b with
      words := mapAt b.words fun i d =>
        if first ≤ i.val ∧ i.val < first + ws.length then { d with mask := ws.getD (i.val - first) 0 } else d }

end Sys2Proof.Machine
end

