-- ==== Sys2Proof/Machine/FeederUnit.lean ====
section
/-! DEFINITION. The Feeder Protection Unit (04): intertrip received, OC, RR, the thermal image and UV of a feeder. -/

namespace Sys2Proof.Machine

/-- The breaker of the feeder is OPEN (R65). -/
def State.breakerOpen (s : State) (k : Fin 6) : Bool := (s.breaker (breakerOf k)).position == .opn

/-- A feeder's element raises its row, with the current at trip (R82). -/
def raiseFeederRow (k : Fin 6) (e : FeederRow) (s : State) : State := raiseRow (feederRow k e) (s.currentOut k).value s

/-! ## Intertrip received (R66) -/

/-- Intertrip-in present, as formed in the frame (R66). -/
def State.intertripNow (s : State) (k : Fin 6) : Bool :=
  let f := s.feederRec k
  f.inPresent && s.indicationBit f.inWord f.inBit

/-- The flag is formed; from clear to set it raises the IT row (R66). -/
def intertripStep (k : Fin 6) (s : State) : State :=
  let now := s.intertripNow k
  let s' := s.onFeeder k fun f => { f with intertrip := now }
  if now && !(s.feeder k).intertrip then raiseFeederRow k .it s' else s'

/-! ## Overcurrent (R67, R68) -/

/-- The frame counts for OC (R67). -/
def ocCounts (iOc : Nat) (x : Output) : Bool :=
  match x.quality with
  | .valid | .held => decide ((iOc : Int) ≤ x.value)
  | .saturated => decide (0 < x.value)
  | .invalid => false

/-- The OC element after a frame (R67, R68). -/
def Feeder.oc (v : FeederView) (x : Output) (f : Feeder) : Feeder :=
  if ocCounts v.iOc x then
    let n := min v.nOc (f.ocCount + 1)
    { f with ocCount := n, ocTripped := f.ocTripped || n == v.nOc }
  else { f with ocCount := 0, ocTripped := false }

/-- The OC element of an in-service feeder; it raises its row when it trips (R64, R68). -/
def ocStep (k : Fin 6) (s : State) : State :=
  if s.inService k then
    let f := (s.feeder k).oc (s.feederRec k) (s.currentOut k)
    let s' := s.onFeeder k fun _ => f
    if f.ocTripped && !(s.feeder k).ocTripped then raiseFeederRow k .oc s' else s'
  else s

/-! ## Rate of rise (R69 to R74) -/

/-- A new entry in the current history (R69). -/
def pushHistory (h : Vector Output 5) (x : Output) : Vector Output 5 :=
  Vector.ofFn fun i => if i.val = 0 then x else h[i.val - 1]

/-- The output takes part in a rate (R69). -/
def ratable (x : Output) : Bool := x.quality == .valid || x.quality == .saturated

/-- The rate s, when available (R69). -/
def rateOf (h : Vector Output 5) : Option Int :=
  if ratable h[0] && ratable h[4] then some ((5 * (h[0].value - h[4].value)).tdiv 2) else none

/-- What a frame of the RR element comes to, beside its state. -/
inductive RrEvent
  | none
  | tripped
  | ended (dI : Int)
  deriving DecidableEq, Repr

/-- The end count after step 3 of R71. -/
def endCountAfter (sHold : Nat) (rate : Option Int) (n : Nat) : Nat :=
  match rate with
  | some r => if r < sHold then n + 1 else 0
  | none => n

/-- A RISING element in a frame with I[n] VALID or SATURATED: the steps of R71. -/
def Feeder.rising (v : FeederView) (f : Feeder) : Feeder × RrEvent :=
  let t := f.rise + 1
  let dI := f.history[0].value - f.i0
  if (v.dISet : Int) ≤ dI ∧ v.tMin ≤ t then ({ f with rr := .tripped, rise := t, resetCount := 0 }, .tripped)
  else
    let n := endCountAfter v.sHold (rateOf f.history) f.endCount
    if n = 3 ∨ t = v.tMax then ({ f with rr := .idle, rise := t, endCount := 0 }, .ended dI)
    else ({ f with rise := t, endCount := n }, .none)

/-- A TRIPPED element in a frame with I[n] VALID or SATURATED (R72). -/
def Feeder.trippedFrame (v : FeederView) (f : Feeder) : Feeder :=
  if f.history[0].value < v.iReset then
    if f.resetCount + 1 = 10 then { f with rr := .idle, resetCount := 0 } else { f with resetCount := f.resetCount + 1 }
  else { f with resetCount := 0 }

/-- An IDLE element in a frame with I[n] VALID or SATURATED and no close block (R70). -/
def Feeder.maybeStart (v : FeederView) (f : Feeder) : Feeder :=
  match rateOf f.history with
  | some r =>
    if (v.sStart : Int) ≤ r then { f with rr := .rising, i0 := f.history[4].value, rise := 0, endCount := 0 } else f
  | none => f

/-- One evaluated frame of the RR element (R70 to R74). A HELD I[n] in a frame with the breaker OPEN: OPEN wins, the
element is IDLE "whatever its state" (R74), and R73's freeze gives way (log 42, DEDUCED). -/
def Feeder.rrFrame (v : FeederView) (isOpen : Bool) (f : Feeder) : Feeder × RrEvent :=
  if isOpen then ({ f with rr := .idle, endCount := 0, resetCount := 0 }, .none)
  else
    match f.history[0].quality with
    | .held => (f, .none)
    | .invalid =>
      match f.rr with
      | .idle => (f, .none)
      | .rising => ({ f with rr := .idle, endCount := 0 }, .none)
      | .tripped => ({ f with resetCount := 0 }, .none)
    | .valid | .saturated =>
      match f.rr with
      | .idle => (if f.closeBlock = 0 then f.maybeStart v else f, .none)
      | .rising => f.rising v
      | .tripped => (f.trippedFrame v, .none)

/-- The RR element is evaluated: in service under a group's record (R62, R64). -/
def State.rrEvaluated (s : State) (k : Fin 6) : Bool := s.inService k && (s.feederRec k).full

/-- What the present frame's RR work would come to. -/
def State.rrOutcome (s : State) (k : Fin 6) : Feeder × RrEvent :=
  (s.feeder k).rrFrame (s.feederRec k) (s.breakerOpen k)

/-- The RR element of a feeder (R70 to R74), with its row or RISE_ENDED. -/
def rrStep (k : Fin 6) (s : State) : State :=
  if s.rrEvaluated k then
    let r := s.rrOutcome k
    let s' := s.onFeeder k fun _ => r.1
    match r.2 with
    | .none => s'
    | .tripped => raiseFeederRow k .rr s'
    | .ended dI => emit .fpu ⟨.feeder, k.val, .riseEnded, 3, some dI⟩ s'
  else s

/-- The close block count runs down by 1 at the end of a frame (R74). -/
def closeBlockStep (k : Fin 6) (s : State) : State :=
  s.onFeeder k fun f => { f with closeBlock := f.closeBlock - 1 }

/-! ## Thermal image (R75 to R78) -/

/-- The trip level I_th² (R77). -/
def tripLevel (v : FeederView) : Nat := v.iTh * v.iTh

/-- The alarm level (R77). -/
def alarmLevel (v : FeederView) : Nat := v.iTh * v.iTh * v.alarmPct / 100

/-- The reclose level (R77). -/
def recloseLevel (v : FeederView) : Nat := v.iTh * v.iTh * v.reclosePct / 100

/-- θ after a block with mean square q (R76). -/
def thetaAfter (tau theta q : Nat) : Nat := ((theta : Int) + ((q : Int) - theta).tdiv (100 * tau)).toNat

/-- The feeder's thermal state after a block end (R76, R77, R78). -/
def Feeder.thermal (v : FeederView) (f : Feeder) : Feeder :=
  let th := thetaAfter v.tau f.theta (f.sum / 100)
  { f with
    theta := th
    sum := 0
    thTripped := if f.thTripped then decide (recloseLevel v ≤ th) else decide (tripLevel v ≤ th)
    thAlarm := if f.thAlarm then decide (alarmLevel v * 9 / 10 ≤ th) else decide (alarmLevel v ≤ th)
    permit := decide (th < recloseLevel v) }

/-- θ as a percentage of the trip level (R78). -/
def thetaPercent (v : FeederView) (theta : Nat) : Nat := min eventMax (theta * 100 / tripLevel v)

/-- A block end of a feeder, with its alarm events and TH row (R77, R78). -/
def thermalEnd (k : Fin 6) (s : State) : State :=
  let v := s.feederRec k
  let f := s.feeder k
  let f' := f.thermal v
  let s := s.onFeeder k fun _ => f'
  let s :=
    if f'.thAlarm && !f.thAlarm then emit .fpu ⟨.feeder, k.val, .thAlarm, 2, some (thetaPercent v f'.theta)⟩ s
    else if !f'.thAlarm && f.thAlarm then emit .fpu ⟨.feeder, k.val, .thClear, 3, some (thetaPercent v f'.theta)⟩ s
    else s
  if f'.thTripped && !f.thTripped then raiseFeederRow k .th s else s

/-- The frame's square enters the feeder's thermal sum (R75). -/
def thermalSum (k : Fin 6) (s : State) : State :=
  let x := (s.currentOut k).value
  s.onFeeder k fun f => { f with sum := f.sum + x.natAbs * x.natAbs }

/-- The end of a thermal block for all feeders (R75). -/
def thermalBlockEnd (s : State) : State :=
  forAll 6 thermalEnd (s.onFpu fun u => { u with thermalCount := 0 })

/-- One frame of the thermal image (R75). -/
def thermalStep (s : State) : State :=
  let s := forAll 6 thermalSum s
  if 99 ≤ s.fpu.thermalCount then thermalBlockEnd s
  else s.onFpu fun u => { u with thermalCount := u.thermalCount + 1 }

/-! ## Undervoltage (R80) -/

/-- The UV element after a frame (R80). -/
def Feeder.uv (v : FeederView) (x : Output) (f : Feeder) : Feeder :=
  let below := decide (x.value < v.uvLevel)
  match x.quality with
  | .invalid => f
  | .saturated => if below then f else { f with uvTimer := 0, uvPicked := false }
  | .valid | .held =>
    if below then
      let n := min v.uvTime (f.uvTimer + 1)
      { f with uvTimer := n, uvPicked := f.uvPicked || n == v.uvTime }
    else { f with uvTimer := 0, uvPicked := false }

/-- The UV element of an in-service feeder, with UV_PICKUP and its row (R64, R80). -/
def uvStep (k : Fin 6) (s : State) : State :=
  if s.inService k && (s.feederRec k).full then
    let x := s.voltageOut k
    let f := (s.feeder k).uv (s.feederRec k) x
    let s' := s.onFeeder k fun _ => f
    if f.uvPicked && !(s.feeder k).uvPicked then
      let s' := emit .fpu ⟨.feeder, k.val, .uvPickup, 2, some x.value⟩ s'
      if (s.feederRec k).uvTrip then raiseFeederRow k .uv s' else s'
    else s'
  else s

/-! ## The frame's work and the settings change -/

/-- The frame's output enters the feeder's current history (R69). -/
def historyStep (k : Fin 6) (s : State) : State :=
  s.onFeeder k fun f => { f with history := pushHistory f.history (s.currentOut k) }

/-- One frame of the Feeder Protection Unit (R65 to R82). Its own records come in the order of its parts: RISE_ENDED
of F0 to F5, then TH_ALARM and TH_CLEAR, then UV_PICKUP; chapter 04 fixes no order (log 41, DESIGN CHOICE). -/
def fpuFrame (s : State) : State :=
  let s := forAll 6 historyStep s
  let s := forAll 6 (fun k s => rrStep k (ocStep k (intertripStep k s))) s
  forAll 6 uvStep (thermalStep s)

/-- A feeder's element states at the first frame of new settings (R69, R84, R85). Intertrip-in present is formed
afresh by the frame's own work (R66), after a query of that frame is answered (log 55, DESIGN CHOICE). -/
def Feeder.switch (old new : FeederView) (f : Feeder) : Feeder :=
  { f with
    ocCount := 0
    ocTripped := false
    rr := if new.full && f.rr == .tripped then .tripped else .idle
    endCount := if new.full && f.rr == .tripped then f.endCount else 0
    resetCount := if new.full && f.rr == .tripped then f.resetCount else 0
    history := if old.current = new.current then f.history else Vector.replicate 5 Output.none
    uvTimer := 0
    uvPicked := false }

/-- The service override from the next frame (R63). -/
def setService (k : Fin 6) (out : Bool) (s : State) : State := s.onFeeder k fun f => { f with serviceOut := out }

/-- No element trip flag of the feeder is set (R83). -/
def State.noElementTripped (s : State) (k : Fin 6) : Bool :=
  let f := s.feeder k
  !f.ocTripped && f.rr != .tripped && !f.thTripped

end Sys2Proof.Machine
end

