-- ==== Sys2Proof/Machine/BreakerUnit.lean ====
section
/-! DEFINITION. The Breaker Drive Unit (06): drive channels, breaker records, trips, closes, the test contactor and
breaker failure. -/

namespace Sys2Proof.Machine

/-! ## Latches and drive states -/

/-- The BDU sets a latch of a breaker (R128). -/
def setLatch (b : Fin 7) (f : Latches → Latches) (s : State) : State :=
  s.onBreaker b fun r => { r with latches := f r.latches }

/-- The value of a set of latches (R128, R134). -/
def Latches.code (l : Latches) : Nat :=
  (if l.bf then 1 else 0) + (if l.coilOpen then 2 else 0) + (if l.coilLost then 4 else 0) + (if l.closeFail then 8 else 0)

/-- Some latch is set. -/
def Latches.any (l : Latches) : Bool := l.bf || l.coilOpen || l.coilLost || l.closeFail

/-- A channel is energised: it enters PEAK and copies its timing fields (R115). -/
def Drive.energise (v : DriveView) (d : Drive) : Drive :=
  { d with
    state := .peak, tPeak := v.tPeak, dHold := v.dHold, tHold := v.tHold, tCool := v.tCool, timer := 0, cool := 0 }

/-- Entry to HOLD (R116). -/
def Drive.enterHold (d : Drive) : Drive := { d with state := .hold, timer := 0, floorLow := 0 }

/-- Entry to QUENCH (R118). -/
def Drive.enterQuench (d : Drive) : Drive := { d with state := .quench, timer := 0 }

/-- Entry to CHECK (R118). -/
def Drive.enterCheck (d : Drive) : Drive := { d with state := .check, timer := 0, pulseSeen := false }

/-- Return to OFF: the cool-off starts (R114). -/
def Drive.enterOff (d : Drive) : Drive := { d with state := .off, timer := 0, cool := d.tCool * 10000 }

/-- The channel drives its coil: PEAK or HOLD. -/
def Drive.energised (d : Drive) : Bool := d.state == .peak || d.state == .hold

/-- PEAK or HOLD is left for QUENCH; any other state stays (R117, R122, R125, R133). -/
def Drive.release (d : Drive) : Drive := if d.energised then d.enterQuench else d

/-- The on-interval of a 50 µs period of the 20 kHz PWM, µs (R116): 15 % is 7 µs. -/
def Drive.onTime (d : Drive) : Nat := d.dHold * 50 / 100

/-- The coil output CDO is on in this µs (06, table of states): in PEAK throughout (R115), in HOLD for the first
`onTime` µs of each 50 µs period (R116), in CHECK for the test pulse of 20 µs (R118), in OFF and QUENCH never. -/
def Drive.output (d : Drive) : Bool :=
  match d.state with
  | .off | .quench => false
  | .peak => true
  | .hold => decide (d.timer % 50 < d.onTime)
  | .check => decide (d.timer < 20)

/-! ## What a channel's transitions do (R115 to R118, R124, R125) -/

/-- A close operation ends without its target, with this outcome for its requester (R124). -/
def endClose (b : Fin 7) (o : CloseOutcome) (s : State) : State :=
  let s := s.onBreaker b fun r => { r with op := .none, count := 0 }
  match feederOf b with
  | some k => s.onWires fun w => { w with outcome := w.outcome.set k (some o) }
  | none => s

/-- A release of the test contactor is reported to the RCL (R125). -/
def reportRelease (k : Fin 6) (s : State) : State :=
  s.onWires fun w => { w with testReleased := w.testReleased.set k true }

/-- The notice that the contactor is held (R125). -/
def reportHeld (k : Fin 6) (s : State) : State :=
  s.onWires fun w => { w with testHeld := w.testHeld.set k true }

/-- What a coil fault does to the operation of its coil: a close fails, a test contactor is released, a trip goes on
(R115, R116, R124, R125). -/
def coilFault (c : Fin 20) (s : State) : State :=
  match coilKind c with
  | .trip => s
  | .close => if (s.breaker (channelBreaker c)).op = .closing then endClose (channelBreaker c) .failed s else s
  | .test => reportRelease (channelFeeder c) s

/-- The operation of the coil is still in progress (R115, R117). -/
def State.coilBusy (s : State) (c : Fin 20) : Bool :=
  match coilKind c with
  | .trip => (s.breaker (channelBreaker c)).op == .tripping
  | .close => (s.breaker (channelBreaker c)).op == .closing
  | .test => true

/-- The peak comparator is first seen high (R115). -/
def peakSeen (c : Fin 20) (s : State) : State :=
  let s := s.onDrive c fun d => { d with ramp := d.timer }
  if s.coilBusy c then
    let s := s.onDrive c Drive.enterHold
    match coilKind c with
    | .test => reportHeld (channelFeeder c) s
    | .trip | .close => s
  else s.onDrive c Drive.enterQuench

/-- T_peak_max expires without the peak comparator: COIL_OPEN found in PEAK (R115). -/
def peakExpired (c : Fin 20) (s : State) : State :=
  let s := s.onDrive c Drive.enterQuench
  let s := setLatch (channelBreaker c) (fun l => { l with coilOpen := true }) s
  coilFault c (emit .bdu ⟨.drive, c.val, .coilOpen, 2, some 1⟩ s)

/-- Eight low floor samples: COIL_LOST (R116). -/
def coilLost (c : Fin 20) (s : State) : State :=
  let s := s.onDrive c Drive.enterQuench
  let s := setLatch (channelBreaker c) (fun l => { l with coilLost := true }) s
  coilFault c (emit .bdu ⟨.drive, c.val, .coilLost, 2, none⟩ s)

/-- A sample of the floor comparator in HOLD (R116). -/
def floorSampled (c : Fin 20) (high : Bool) (s : State) : State :=
  if high then s.onDrive c fun d => { d with floorLow := 0 }
  else
    let s := s.onDrive c fun d => { d with floorLow := d.floorLow + 1 }
    if 8 ≤ (s.drive c).floorLow then coilLost c s else s

/-- T_hold_max expires in HOLD (R117, R124, R125). -/
def holdExpiry (c : Fin 20) (s : State) : State :=
  let s := s.onDrive c Drive.enterQuench
  let b := channelBreaker c
  match coilKind c with
  | .trip => s
  | .close =>
    if (s.breaker b).op = .closing then
      let s := setLatch b (fun l => { l with closeFail := true }) s
      endClose b .failed (emit .bdu ⟨.breaker, b.val, .closeFail, 2, none⟩ s)
    else s
  | .test => reportRelease (channelFeeder c) s

/-- The end of the test pulse in CHECK: COIL_OPEN if the floor comparator was not seen (R118). -/
def pulseEnd (c : Fin 20) (s : State) : State :=
  if (s.drive c).pulseSeen then s
  else
    let s := setLatch (channelBreaker c) (fun l => { l with coilOpen := true }) s
    emit .bdu ⟨.drive, c.val, .coilOpen, 2, some 2⟩ s

/-! ## The 1 µs timer (R115 to R118) -/

/-- The time limit of a channel's present state, µs (R114 to R118). -/
def Drive.limit (d : Drive) : Nat :=
  match d.state with
  | .off => 0
  | .peak => d.tPeak * 1000
  | .hold => d.tHold * 1000
  | .quench => 5000
  | .check => 10000

/-- The end of an on-interval of the 20 kHz PWM (R116). -/
def Drive.samplesNow (d : Drive) : Bool := d.timer % 50 == d.onTime

/-- A µs of HOLD: the floor sample of an on-interval, then T_hold_max (R116, R117). -/
def holdTick (c : Fin 20) (floor : Bool) (s : State) : State :=
  let s := if (s.drive c).samplesNow then floorSampled c floor s else s
  if (s.drive c).state = .hold ∧ (s.drive c).limit ≤ (s.drive c).timer then holdExpiry c s else s

/-- A µs of CHECK: the test pulse, its end at 20 µs, and the end of the state (R118). -/
def checkTick (c : Fin 20) (floor : Bool) (s : State) : State :=
  let s :=
    if (s.drive c).timer ≤ 20 then s.onDrive c fun d => { d with pulseSeen := d.pulseSeen || floor } else s
  let s := if (s.drive c).timer = 20 then pulseEnd c s else s
  if (s.drive c).limit ≤ (s.drive c).timer then s.onDrive c Drive.enterOff else s

/-- One µs of a channel, with the comparator levels of that µs. -/
def driveTick (m : Micro) (c : Fin 20) (s : State) : State :=
  if (s.drive c).state = .off then s
  else
    let s := s.onDrive c fun d => { d with timer := d.timer + 1 }
    let d := s.drive c
    match d.state with
    | .off => s
    | .peak => if m.peak.getLsbD c then peakSeen c s else if d.limit ≤ d.timer then peakExpired c s else s
    | .hold => holdTick c (m.floor.getLsbD c) s
    | .quench => if d.limit ≤ d.timer then s.onDrive c Drive.enterCheck else s
    | .check => checkTick c (m.floor.getLsbD c) s

/-- One µs of every channel. -/
def drivesTick (m : Micro) (s : State) : State :=
  if (List.finRange 20).all (fun c => (s.drive c).state == .off) then s else forAll 20 (driveTick m) s

/-- The µs of a frame. -/
def drivesRun (ms : List Micro) (s : State) : State := ms.foldl (fun s m => drivesTick m s) s

/-! ## Positions (R119) -/

/-- The position from word 0's quality and the two contacts (R119). -/
def positionFrom (valid opn cls : Bool) : Position :=
  match valid, opn, cls with
  | false, _, _ => .unknown
  | true, true, false => .opn
  | true, false, true => .closed
  | true, false, false => .travel
  | true, true, true => .discrepant

/-- The position of a breaker in the frame (R119). -/
def State.positionNow (s : State) (b : Fin 7) : Position :=
  let w := s.sbi.words[0]
  if s.isFitted b then positionFrom w.valid (w.agreed.getLsbD (2 * b.val)) (w.agreed.getLsbD (2 * b.val + 1))
  else .unknown

/-- A test contactor is released when its breaker is not OPEN (R125). -/
def releaseUnlessOpen (k : Fin 6) (s : State) : State :=
  if (s.drive (testChannel k)).energised && !s.breakerOpen k then
    reportRelease k (s.onDrive (testChannel k) Drive.enterQuench)
  else s

/-- The positions of a frame are formed (R119), and test contactors released where they are not OPEN (R125). -/
def formPositions (s : State) : State :=
  let s := forAll 7 (fun b s => s.onBreaker b fun r => { r with position := s.positionNow b }) s
  forAll 6 releaseUnlessOpen s

/-- The target of an operation (R120). -/
def Operation.target : Operation → Option Position
  | .none => Option.none
  | .tripping => some .opn
  | .closing => some .closed

/-- The event of a movement to OPEN or CLOSED with its value (R120). -/
def movedEvent (b : Fin 7) (p : Position) (value : Int) : EventMsg :=
  ⟨.breaker, b.val, if p = .opn then .opened else .closed, 1, some value⟩

/-- The channel of the operation under way. -/
def opChannel (b : Fin 7) : Operation → Fin 20
  | .closing => closeChannel b
  | .none | .tripping => tripChannel b

/-- HOLD ends with the operation; PEAK goes on (R117, R124). -/
def Drive.endHold (d : Drive) : Drive := if d.state = .hold then d.enterQuench else d

/-- The operation ends on its target (R120, R124): its coil's HOLD ends, and a moved breaker gives its event. -/
def endOnTarget (b : Fin 7) (s : State) : State :=
  let r := s.breaker b
  let s := s.onDrive (opChannel b r.op) Drive.endHold
  let s := if r.moved then emit .bdu (movedEvent b r.position r.count) s else s
  let s := s.onBreaker b fun x =>
    { x with lastTime := if r.moved then r.count else x.lastTime, op := .none, count := 0, moved := false }
  match r.op, feederOf b with
  | .closing, some k => s.onWires fun w => { w with outcome := w.outcome.set k (some .closed) }
  | _, _ => s

/-- A position changes without ending an operation (R120). -/
def positionEvents (b : Fin 7) (before now : Position) (s : State) : State :=
  if before = now then s
  else
    match now with
    | .discrepant => emit .bdu ⟨.breaker, b.val, .discrepant, 2, none⟩ s
    | .opn | .closed => if before = .unknown then s else emit .bdu (movedEvent b now (-1)) s
    | .travel | .unknown => s

/-- A failed trip operation whose trip channel is OFF has come to its end (R126). -/
def Breaker.failedEnd (r : Breaker) (trip : Drive) : Bool :=
  r.op == .tripping && decide (r.tbf * 10 ≤ r.count) && trip.state == .off

/-- The end of a breaker's operation in the frame, and the events of its position (R120, R126). The fitted state of
the frame before decides whether a change of position is a movement (R119, R132). -/
def settleBreaker (before : Position) (b : Fin 7) (s : State) : State :=
  let r := s.breaker b
  if r.op ≠ .none ∧ r.op.target = some r.position then endOnTarget b s
  else
    let s := if r.wasFitted == s.isFitted b then positionEvents b before r.position s else s
    if r.failedEnd (s.drive (tripChannel b)) then
      s.onBreaker b fun x => { x with op := .none, count := 0, moved := false }
    else s

/-- The fitted state that the positions of the frame were formed with (R119). -/
def noteFitted (b : Fin 7) (s : State) : State := s.onBreaker b fun x => { x with wasFitted := s.isFitted b }

/-- The breaker has moved in its operation: its position is neither the target nor UNKNOWN (R120). -/
def markMoved (b : Fin 7) (s : State) : State :=
  s.onBreaker b fun r =>
    { r with
      moved := r.moved || (r.op != .none && r.op.target != some r.position && r.position != .unknown) }

/-! ## Trips (R121, R122) -/

/-- A trip starts: its channel enters PEAK from any state (R121). The close channel is released first, also where its
close has ended on its target in PEAK, so that the two are never both energised (R122; log 39, DEDUCED). -/
def startTrip (b : Fin 7) (s : State) : State :=
  let s := s.onDrive (closeChannel b) Drive.release
  let s := s.onDrive (tripChannel b) (Drive.energise (s.driveRec (tripChannel b)))
  let s := s.onWires fun w => { w with tripStarted := w.tripStarted.set b true }
  s.onBreaker b fun r => { r with op := .tripping, count := 0, tbf := tBf s.su.inUse, moved := false }

/-- A trip cuts a close (R122). -/
def cutClose (b : Fin 7) (s : State) : State :=
  startTrip b (endClose b .cut (emit .bdu ⟨.breaker, b.val, .closeCut, 1, none⟩ s))

/-- A trip request for a breaker (R121). -/
def tripRequest (b : Fin 7) (s : State) : State :=
  let s := s.onBreaker b fun r => { r with tripTaken := true }
  if s.isFitted b then
    match (s.breaker b).op with
    | .tripping => s
    | .closing => cutClose b s
    | .none => if (s.breaker b).position = .opn then s else startTrip b s
  else s

/-! ## Closes (R123, R124, R131) -/

/-- All channels of a breaker are OFF. -/
def State.allOff (s : State) (b : Fin 7) : Bool :=
  (s.drive (tripChannel b)).state == .off && (s.drive (closeChannel b)).state == .off
    && (match feederOf b with
      | some k => (s.drive (testChannel k)).state == .off
      | none => true)

/-- Step 2 of R123: the feeder is in service and its sequence is in CLOSING. -/
def State.closeStep2 (s : State) (b : Fin 7) : Bool :=
  match feederOf b with
  | some k => s.inService k && (s.seq k).state == .closing
  | none => true

/-- Step 7 of R123: no element tripped, thermal permit, no intertrip-in. -/
def State.closeStep7 (s : State) (b : Fin 7) : Bool :=
  match feederOf b with
  | some k => s.noElementTripped k && (s.feeder k).permit && !(s.feeder k).intertrip
  | none => true

/-- The checks of a close request, in order; the first failure (R123, R131). -/
def closeCheck (s : State) (b : Fin 7) : Option Result :=
  if !(s.driveRec (closeChannel b)).enabled then some .refusedState
  else if !s.closeStep2 b then some .refusedState
  else if !s.allOff b then some .refusedState
  else if (s.drive (closeChannel b)).cool ≠ 0 then some .cooling
  else if (s.breaker b).latches.any then some .refusedInterlock
  else if (s.breaker b).position ≠ .opn then some .refusedState
  else if !s.closeStep7 b then some .refusedInterlock
  else if (s.breaker b).tripTaken then some .refusedState
  else none

/-- The close is taken: its channel is energised, and a feeder's RR close block starts (R74, R123). -/
def startClose (b : Fin 7) (s : State) : State :=
  let s := s.onDrive (closeChannel b) (Drive.energise (s.driveRec (closeChannel b)))
  let s := s.onBreaker b fun r => { r with op := .closing, count := 0, moved := false }
  match feederOf b with
  | some k => s.onFeeder k fun f => { f with closeBlock := 20 }
  | none => s

/-! ## Test contactor (R125) -/

/-- The checks of a test request, in order; the first failure (R125). -/
def testCheck (s : State) (k : Fin 6) : Option Result :=
  if !(s.driveRec (testChannel k)).enabled then some .refusedState
  else if (s.drive (testChannel k)).state ≠ .off ∨ (s.drive (closeChannel (breakerOf k))).state ≠ .off then
    some .refusedState
  else if (s.drive (testChannel k)).cool ≠ 0 then some .cooling
  else if !s.breakerOpen k then some .refusedState
  else none

/-- The contactor is energised (R125). -/
def startTest (k : Fin 6) (s : State) : State :=
  s.onDrive (testChannel k) (Drive.energise (s.driveRec (testChannel k)))

/-- The RCL's own release of the contactor (R125). -/
def releaseTest (k : Fin 6) (s : State) : State := s.onDrive (testChannel k) Drive.release

/-! ## Breaker failure (R126) -/

/-- The row of a breaker's failure: BF of the feeder, or AC_BF (R93, R126). -/
def failureRow (b : Fin 7) : Fin 40 :=
  match feederOf b with
  | some k => feederRow k .bf
  | none => 37

/-- The breaker has failed (R126). -/
def breakerFailed (b : Fin 7) (s : State) : State :=
  let r := s.breaker b
  let s := emit .bdu ⟨.breaker, b.val, .bf, 0, some r.count⟩ s
  if r.latches.bf then s
  else raiseRow (failureRow b) r.count (setLatch b (fun l => { l with bf := true }) s)

/-- The failure check of a trip operation, when its count reaches T_bf in force × 10 (R126). -/
def failureCheck (b : Fin 7) (s : State) : State :=
  let r := s.breaker b
  if r.op = .tripping ∧ r.count = r.tbf * 10 ∧ r.position ≠ .opn then breakerFailed b s else s

/-! ## Counts of a frame, commands and restart -/

/-- An operation under way counts the frame (R120). -/
def Breaker.tick (r : Breaker) : Breaker := if r.op = .none then r else { r with count := r.count + 1 }

/-- The counts of a frame: energise frame counts, trip-taken flags and cool-offs (R114, R119, R120). -/
def bduCounts (s : State) : State :=
  s.onBdu fun u =>
    { drives := mapAt u.drives fun _ d => { d with cool := d.cool - 1 }
      breakers := mapAt u.breakers fun _ r => { r.tick with tripTaken := false } }

/-- The RCL is told that a feeder's breaker was opened by command (R129). -/
def noticeOpening (b : Fin 7) (s : State) : State :=
  match feederOf b with
  | some k => s.onWires fun w => { w with commandOpening := w.commandOpening.set k true }
  | none => s

/-- OPEN of a breaker (R129). -/
def commandOpen (b : Fin 7) (s : State) : State := noticeOpening b (tripRequest b s)

/-- OPEN ALL takes a feeder's breaker: fitted and not OPEN (R130). -/
def openAllTakes (s : State) (k : Fin 6) : Bool := s.isFitted (breakerOf k) && !s.breakerOpen k

/-- OPEN ALL, by the positions at the start of the frame (R130). -/
def commandOpenAll (s0 : State) (s : State) : State :=
  forAll 6 (fun k s => if openAllTakes s0 k then commandOpen (breakerOf k) s else s) s

/-- CLEAR LATCH clears every latch of the breaker (R128). -/
def clearLatches (b : Fin 7) (s : State) : State :=
  let l := (s.breaker b).latches
  let s := setLatch b (fun _ => Latches.none) s
  if l.any then emit .bdu ⟨.breaker, b.val, .latchCleared, 1, some l.code⟩ s else s

/-- What a RESTART does to a close operation (R133). -/
def Breaker.restart (r : Breaker) : Breaker :=
  if r.op = .closing then { r with op := .none, count := 0, moved := false } else r

/-- What a RESTART does in the BDU: closes and tests end, trips go on (R133). -/
def bduRestart (s : State) : State :=
  s.onBdu fun u =>
    { drives := mapAt u.drives fun c d =>
        match coilKind c with
        | .trip => d
        | .close | .test => d.release
      breakers := mapAt u.breakers fun _ r => r.restart }

end Sys2Proof.Machine
end

