-- ==== Sys2Proof/Machine/Reclose.lean ====
section
/-! DEFINITION. The Reclose Unit (07): the sequence of a feeder, its pre-check, line test, close, reclaim and lockout. -/

namespace Sys2Proof.Machine

/-- The code of a reason or wait cause (R158). -/
def Cause.code : Cause → Nat
  | .none => 0 | .attemptsUsed => 1 | .closeFailed => 2 | .closeRefused => 3 | .testRefused => 4 | .testEnded => 5
  | .fallback => 6 | .restart => 7 | .outOfService => 16 | .breakerNotOpen => 17 | .latch => 18 | .driveBusy => 19
  | .elementTripped => 20 | .thermal => 21 | .intertrip => 22 | .busVoltage => 23 | .phaseBack => 24
  | .counterBlock => 25

/-- An event of a feeder's sequence (R157). -/
def emitSeq (k : Fin 6) (code : EventCode) (cls : Nat) (value : Int) (s : State) : State :=
  emit .rcl ⟨.feeder, k.val, code, cls, some value⟩ s

/-! ## Entry to states (R139, R150) -/

/-- Entry to LOCKOUT with its reason and event; an energised contactor is released (R150). -/
def lockOut (k : Fin 6) (reason : Cause) (s : State) : State :=
  let s := if (s.seq k).state = .lineTest then releaseTest k s else s
  let s := s.onSeq k fun q => { q with state := .lockout, phase := .none, timer := 0, reason := reason }
  emitSeq k .lockout 2 reason.code s

/-- Entry to DEAD_TIME for the next attempt (R139, R145). -/
def nextAttempt (k : Fin 6) (s : State) : State :=
  let n := (s.seq k).attempts + 1
  let s := s.onSeq k fun q => { q with state := .deadTime, phase := .none, timer := 0, attempts := n }
  emitSeq k .deadTimeStart 1 n s

/-- A further attempt, or LOCKOUT when the attempts are used up (R139, R145, R148). -/
def attemptOrLockOut (k : Fin 6) (s : State) : State :=
  if (s.seq k).attempts < (s.recloseRec k).attempts then nextAttempt k s else lockOut k .attemptsUsed s

/-- Entry to PRECHECK from DEAD_TIME or by CLOSE FEEDER (R140, R152). -/
def enterPrecheck (k : Fin 6) (s : State) : State :=
  s.onSeq k fun q => { q with state := .precheck, phase := .none, timer := 0, precheck := 0, wait := .none }

/-- Entry to IDLE (R149, R151, R153). -/
def enterIdle (k : Fin 6) (attempts : Nat) (s : State) : State :=
  s.onSeq k fun q => { q with state := .idle, phase := .none, timer := 0, attempts := attempts }

/-! ## Pre-check (R141, R142) -/

/-- The Counter Bank holds a reclose block for the feeder (R141, R202). -/
def State.counterBlocks (s : State) (k : Fin 6) : Bool :=
  (List.finRange 16).any fun n => s.cb.counters[n].block && s.cb.counters[n].blockFeeder == k.val

/-- The conditions of R141 in order, each with its wait cause. -/
def precheckConditions (s : State) (k : Fin 6) : List (Bool × Cause) :=
  [ (s.inService k, .outOfService),
    (s.breakerOpen k, .breakerNotOpen),
    (!(s.breaker (breakerOf k)).latches.any, .latch),
    (s.allOff (breakerOf k), .driveBusy),
    (s.noElementTripped k, .elementTripped),
    ((s.feeder k).permit, .thermal),
    (!(s.feeder k).intertrip, .intertrip),
    (s.busOut.quality == .valid && decide (((s.recloseRec k).uBusMin : Int) ≤ s.uBus), .busVoltage),
    (s.rcu.state != .phaseBack, .phaseBack),
    (!s.counterBlocks k, .counterBlock) ]

/-- The wait cause of the first failing condition; none when every condition holds (R141). -/
def precheckCause (s : State) (k : Fin 6) : Option Cause :=
  ((precheckConditions s k).find? fun p => !p.1).map Prod.snd

/-! ## Line test and close (R143 to R148) -/

/-- The test request of phase REQUEST (R143). -/
def requestTest (k : Fin 6) (s : State) : State :=
  match testCheck s k with
  | none => (startTest k s).onSeq k fun q => { q with phase := .starting }
  | some .cooling => s
  | some _ => lockOut k .testRefused s

/-- The close request of phase CLOSE_WAIT, once the three channels are OFF (R148). -/
def requestClose (k : Fin 6) (s : State) : State :=
  if s.allOff (breakerOf k) then
    match closeCheck s (breakerOf k) with
    | none => (startClose (breakerOf k) s).onSeq k fun q => { q with phase := .closeEnergised }
    | some .cooling => s
    | some _ => lockOut k .closeRefused s
  else s

/-- Entry to CLOSING (R142, R145). -/
def enterClosing (k : Fin 6) (s : State) : State :=
  s.onSeq k fun q => { q with state := .closing, phase := .closeWait, timer := 0 }

/-- A pre-check that passes: a live-line close or a line test, with its request in the same frame (R142). -/
def leavePrecheck (k : Fin 6) (s : State) : State :=
  let s := s.onSeq k fun q => { q with wait := .none }
  if (s.seq k).live = 100 then
    requestClose k (emitSeq k .liveLineClose 1 (s.voltageOut k).value (enterClosing k s))
  else requestTest k (s.onSeq k fun q => { q with state := .lineTest, phase := .request, timer := 0 })

/-- A failing pre-check waits, at most 100,000 frames (R141). -/
def waitPrecheck (k : Fin 6) (c : Cause) (s : State) : State :=
  let s := s.onSeq k fun q => { q with wait := c, precheck := q.precheck + 1 }
  if 100000 ≤ (s.seq k).precheck then lockOut k c s else s

/-- A frame of PRECHECK (R141, R142). -/
def precheckWork (k : Fin 6) (s : State) : State :=
  match precheckCause s k with
  | none => leavePrecheck k s
  | some c => waitPrecheck k c s

/-- The sums of the SUM phase start again (R144). -/
def Seq.clearSums (q : Seq) : Seq := { q with sumU := 0, sumI := 0, samples := 0 }

/-- R_line from the sums (R145). -/
def lineResistance (v : RecloseView) (sumU sumI : Int) : Nat :=
  let u := sumU.tdiv v.nAvg
  let i := sumI.tdiv v.nAvg
  if i < v.iTestMin then 4000000 else (clampInt 0 4000000 ((u * 1000).tdiv i)).toNat

/-- The complete test: the contactor is released and R_line decides (R145). -/
def completeTest (k : Fin 6) (s : State) : State :=
  let v := s.recloseRec k
  let q := s.seq k
  let r := lineResistance v q.sumU q.sumI
  let s := releaseTest k (s.onSeq k fun q => { q with lastR := r })
  if v.rMin ≤ r then emitSeq k .lineTestPass 1 r (enterClosing k s)
  else attemptOrLockOut k (emitSeq k .lineTestFail 2 r s)

/-- The frame's outputs can be summed (R144). -/
def State.summable (s : State) (k : Fin 6) : Bool :=
  (s.voltageOut k).quality != .invalid && (s.currentOut k).quality != .invalid

/-- A frame of phase SUM (R144, R145). -/
def sumWork (k : Fin 6) (s : State) : State :=
  if s.summable k then
    let u := (s.voltageOut k).value
    let i := (s.currentOut k).value
    let s := s.onSeq k fun q => { q with sumU := q.sumU + u, sumI := q.sumI + i, samples := q.samples + 1 }
    if (s.recloseRec k).nAvg ≤ (s.seq k).samples then completeTest k s else s
  else s.onSeq k Seq.clearSums

/-- A frame of phase SETTLE (R144). The timer keeps its settling value through phase SUM, where no rule says what it
reads (log 34, DEDUCED). -/
def settleWork (k : Fin 6) (s : State) : State :=
  let s := s.onSeq k fun q => { q with timer := q.timer + 1 }
  if (s.recloseRec k).tSettle ≤ (s.seq k).timer then
    s.onSeq k fun q => { q.clearSums with phase := .sum }
  else s

/-- The line test is interrupted and the sequence returns to PRECHECK (R146). -/
def interruptTest (k : Fin 6) (s : State) : State :=
  (releaseTest k s).onSeq k fun q => { q.clearSums with state := .precheck, phase := .none, timer := 0 }

/-- The bus voltage channel's output or the intertrip-in interrupts a test (R146). -/
def State.testDisturbed (s : State) (k : Fin 6) : Bool :=
  (s.feeder k).intertrip || s.busOut.quality == .invalid || decide (s.uBus < (s.recloseRec k).uBusMin)

/-- The outcome of a close reaches a sequence in CLOSE_ENERGISED (R148). -/
def closeOutcome (k : Fin 6) (o : CloseOutcome) (s : State) : State :=
  match o with
  | .closed => s.onSeq k fun q => { q with state := .reclaim, phase := .none, timer := 0 }
  | .failed => lockOut k .closeFailed s
  | .cut => attemptOrLockOut k s

/-! ## Dead time and reclaim (R140, R149) -/

/-- A frame of DEAD_TIME (R140). -/
def deadTimeWork (k : Fin 6) (s : State) : State :=
  let s := s.onSeq k fun q => { q with timer := q.timer + 1 }
  if (s.recloseRec k).dead (s.seq k).attempts * 10 ≤ (s.seq k).timer then enterPrecheck k s else s

/-- A frame of RECLAIM (R149). -/
def reclaimWork (k : Fin 6) (s : State) : State :=
  let s := s.onSeq k fun q => { q with timer := q.timer + 1 }
  let q := s.seq k
  if s.breakerOpen k then enterIdle k q.attempts s
  else if (s.recloseRec k).tReclaim * 10000 ≤ q.timer then emitSeq k .reclaimed 3 q.attempts (enterIdle k 0 s)
  else s

/-! ## What reaches a sequence in one frame (R138) -/

/-- The work that the notices of the frame give: an interrupted or ended test, the held contactor, a close outcome
(R143, R146, R147, R148). None when no notice acts. `disturbed` is the interruption by what the sequence reads itself.
An interruption and an end of the contactor in one frame have no order (log 11). -/
def noticeWork (disturbed : Bool) (k : Fin 6) (s : State) : Option State :=
  let q := s.seq k
  match q.state, q.phase with
  | .lineTest, p =>
    let cut := disturbed || s.wires.rowNotice[k]
    let ended := s.wires.testReleased[k]
    if ended && cut then
      let s' := { s with free := s.free + 1 }
      some (if Config.testEndFirst s.free then lockOut k .testEnded s' else interruptTest k s')
    else if ended then some (lockOut k .testEnded s)
    else if cut then some (interruptTest k s)
    else if p = .starting ∧ s.wires.testHeld[k] = true then
      some (s.onSeq k fun q => { q with phase := .settle, timer := 0 })
    else none
  | .closing, .closeEnergised => (s.wires.outcome[k]).map fun o => closeOutcome k o s
  | _, _ => none

/-- The state work of a frame in which no notice acts (R140 to R149). -/
def timedWork (k : Fin 6) (s : State) : State :=
  match (s.seq k).state, (s.seq k).phase with
  | .deadTime, _ => deadTimeWork k s
  | .precheck, _ => precheckWork k s
  | .lineTest, .request => requestTest k s
  | .lineTest, .settle => settleWork k s
  | .lineTest, .sum => sumWork k s
  | .closing, .closeWait => requestClose k s
  | .reclaim, _ => reclaimWork k s
  | _, _ => s

/-- The state work of a frame (R138, step 5). The notices come first: an end of the contactor in the very frame in
which the sample count would reach N_avg is a test that has ended (R145, R147; log 51, DEDUCED). -/
def stateWork (k : Fin 6) (s : State) : State :=
  match noticeWork (s.testDisturbed k) k s with
  | some s' => s'
  | none => timedWork k s

/-- A command opening (R151). -/
def openedByCommand (k : Fin 6) (s : State) : State :=
  if (s.seq k).state = .lockout then s
  else
    let s := if (s.seq k).state = .lineTest then releaseTest k s else s
    (enterIdle k 0 s).onSeq k fun q => { q with precheck := 0 }

/-- The sequence is under way or reclaiming: neither IDLE nor LOCKOUT. -/
def SeqState.busy : SeqState → Bool
  | .idle | .lockout => false
  | .deadTime | .precheck | .lineTest | .closing | .reclaim => true

/-- A command answered DONE (R152, R153). -/
def applySeqCommand (k : Fin 6) (c : SeqCommand) (s : State) : State :=
  match c with
  | .closeFeeder =>
    let s' := (enterPrecheck k s).onSeq k fun q => { q with attempts := (s.recloseRec k).attempts }
    if (s.seq k).state = .lockout then emitSeq k .lockoutReset 1 2 s' else s'
  | .resetLockout => emitSeq k .lockoutReset 1 1 ((enterIdle k 0 s).onSeq k fun q => { q with precheck := 0 })

/-- The command of the frame for this feeder. -/
def seqCommandFor (s : State) (k : Fin 6) : Option SeqCommand :=
  match s.wires.seqCommand with
  | some (j, c) => if j = k then some c else none
  | none => none

/-- A state in which a reclose start is taken (R139). -/
def SeqState.takesStart : SeqState → Bool
  | .idle | .reclaim => true
  | .deadTime | .precheck | .lineTest | .closing | .lockout => false

/-- What reaches a sequence in a frame, in the order of R138, with the given state work as step 5. -/
def reach (work : State → State) (k : Fin 6) (s : State) : State :=
  if s.wires.commandOpening[k] then openedByCommand k s
  else if s.wires.fallbackNotice && (s.seq k).state.busy then lockOut k .fallback s
  else
    match seqCommandFor s k with
    | some c => applySeqCommand k c s
    | none =>
      if s.wires.starts[k] && (s.seq k).state.takesStart then attemptOrLockOut k s else work s

/-- The live count of a frame (R138). -/
def liveStep (k : Fin 6) (s : State) : State :=
  let x := s.voltageOut k
  s.onSeq k fun q =>
    { q with
      live := if x.quality = .valid ∧ ((s.recloseRec k).uLive : Int) ≤ x.value then min 100 (q.live + 1) else 0 }

/-- One frame of a sequence (R138). -/
def rclFrame (k : Fin 6) (s : State) : State := reach (stateWork k) k (liveStep k s)

/-- What the notices of a single event give a sequence (R138), without the frame's timers. -/
def rclReact (k : Fin 6) (s : State) : State := reach (fun s => (noticeWork false k s).getD s) k s

/-! ## Settings changes and restart (R154, R155, R156) -/

/-- A sequence at the first frame of a group (R144, R154). -/
def rclSwitch (k : Fin 6) (s : State) : State :=
  let n := (s.recloseRec k).attempts
  let s := s.onSeq k fun q => if q.state = .lineTest ∧ q.phase = .sum then q.clearSums else q
  let q := s.seq k
  if n < q.attempts then
    let s := s.onSeq k fun q => { q with attempts := n }
    if q.state.busy && q.state != .reclaim then lockOut k .attemptsUsed s else s
  else s

/-- The attempt counts at the entry into fallback operation (R155). -/
def rclFallback (s : State) : State := s.onRcl fun v => mapAt v fun _ q => { q with attempts := 0 }

/-- What a RESTART does to a sequence (R156). -/
def rclRestart (k : Fin 6) (s : State) : State := if (s.seq k).state.busy then lockOut k .restart s else s

end Sys2Proof.Machine
end

