-- ==== Sys2Proof/Machine/Rectifier.lean ====
section
/-! DEFINITION. The Rectifier Control Unit (08): phase tracking, firing, the states, regulation, phase-back, setpoint,
overload, the chopper and overvoltage. -/

namespace Sys2Proof.Machine

/-- An event of the rectifier (R182). -/
def emitRcu (code : EventCode) (cls : Nat) (value : Int) (s : State) : State :=
  emit .rcu ⟨.rectifier, 0, code, cls, some value⟩ s

/-- Change the sync record alone. -/
def State.onSync (s : State) (f : Sync → Sync) : State := s.onRcu fun u => { u with sync := f u.sync }

/-! ## Phase counter and firing (R163, R165) -/

/-- The phase counter at an instant at or after the reference instant (R163). -/
def Sync.counterAt (y : Sync) (t : Nat) : Nat := (t - y.ref) * 3600 / y.period

/-- The phase counter now (R163). -/
def State.phaseCounter (s : State) : Nat := s.rcu.sync.counterAt s.timer % 3600

/-- The natural point of a thyristor (R165). -/
def naturalPoint (n : Fin 12) : Nat := (300 + 300 * n.val) % 3600

/-- The firing point of a thyristor at an angle (R165). -/
def firingPoint (n : Fin 12) (alpha : Nat) : Nat := (naturalPoint n + alpha) % 3600

/-- The forward distance of a point from the counter (R165). -/
def forward (point counter : Nat) : Nat := (point + 3600 - counter % 3600) % 3600

/-- The pending thyristor fires: its distance is 0, or 2400 or more (R165). -/
def firesAt (d : Nat) : Bool := d == 0 || decide (2400 ≤ d)

/-- The angle moved toward a target by at most a step (R171). -/
def moveToward (step target x : Nat) : Nat :=
  if x < target then min target (x + step) else max target (x - step)

/-- The computed angle within the limits in use: an angle computed before a change of the settings is held to the new
limits, so that "every firing instant" lies within them (R175; log 46, DEDUCED). -/
def State.targetAlpha (s : State) : Nat := clampNat s.rect.aMin s.rect.aMax s.rcu.calcAlpha

/-- α_applied and the state for the next firing instant (R168, R171, R172, R175). -/
def nextAlpha (s : State) : Nat × RcuState :=
  let u := s.rcu
  let v := s.rect
  match u.state with
  | .softStart =>
    if s.targetAlpha + v.dAlphaSoft < u.alpha then (u.alpha - v.dAlphaSoft, .softStart)
    else (s.targetAlpha, .regulating)
  | .regulating => (moveToward v.dAlphaMax s.targetAlpha u.alpha, .regulating)
  | .phaseBack => (v.aBlock, .phaseBack)
  | .fixed => (fallbackAlpha s.straps, .fixed)
  | .blocked => (u.alpha, .blocked)

/-- The firing instant of a thyristor (R165): its gate turns on, and the next thyristor becomes pending. -/
def fireThyristor (n : Fin 12) (s : State) : State :=
  let next := nextAlpha s
  s.onRcu fun u =>
    { u with
      pulses := u.pulses.set n (s.timer + s.rect.pulse * u.sync.period / 3600)
      pendingThy := some (n + 1)
      alpha := next.1
      state := next.2
      point := firingPoint (n + 1) next.1 }

/-- Firing instants of one moment: a point set behind the counter fires at once (R165). -/
def fireDue : Nat → State → State
  | 0, s => s
  | fuel + 1, s =>
    match s.rcu.pendingThy with
    | none => s
    | some n => if firesAt (forward s.rcu.point s.phaseCounter) then fireDue fuel (fireThyristor n s) else s

/-- At most this many thyristors fire in one moment: one turn of the twelve. -/
def firingTurn : Nat := 12

/-- The firing point of the pending thyristor is re-set at an angle, without a rate limit (R165, R172, R175). -/
def repoint (alpha : Nat) (s : State) : State :=
  match s.rcu.pendingThy with
  | none => s.onRcu fun u => { u with alpha := alpha }
  | some n => fireDue firingTurn (s.onRcu fun u => { u with alpha := alpha, point := firingPoint n alpha })

/-- The thyristor whose firing point has the smallest forward distance (R165). -/
def firstThyristor (counter alpha : Nat) : Fin 12 :=
  (List.finRange 12).foldl
    (fun best n => if forward (firingPoint n alpha) counter < forward (firingPoint best alpha) counter then n else best) 0

/-- The RCU begins firing from BLOCKED in a state and at an angle, with RECT_RUN (R165, R167). -/
def beginFiring (state : RcuState) (code : Nat) (alpha : Nat) (s : State) : State :=
  let n := firstThyristor s.phaseCounter alpha
  let s := s.onRcu fun u =>
    { u with state := state, alpha := alpha, pendingThy := some n, point := firingPoint n alpha }
  fireDue firingTurn (emitRcu .rectRun 1 code s)

/-- Firing stops: no thyristor pending, every gate output inactive (R165). -/
def Rcu.stopFiring (u : Rcu) : Rcu := { u with pendingThy := none, pulses := Vector.replicate 12 0 }

/-- The gate output of a thyristor is active (R165). -/
def State.gateOutput (s : State) (n : Fin 12) : Bool := decide (s.timer < s.rcu.pulses[n])

/-- The reference instant advances by one period and the counter wraps (R163). -/
def wrapCounter (s : State) : State := s.onSync fun y => { y with ref := y.ref + y.period }

/-- One µs of the RCU: the timer, the wrap of the phase counter, firing (R163, R165). -/
def rcuTick (s : State) : State :=
  let s := { s with timer := s.timer + 1 }
  let s := if s.rcu.sync.period ≤ s.timer - s.rcu.sync.ref then wrapCounter s else s
  fireDue firingTurn s

/-- The µs of a frame. -/
def rcuRun (ms : List Micro) (s : State) : State := ms.foldl (fun s _ => rcuTick s) s

/-! ## Zero crossings and sync (R162, R163, R164) -/

/-- A positive-going crossing of a channel between the frame before and this one, located to 1 µs (R162). -/
def crossingOf (s : State) (c : Fin 32) : Option Nat :=
  let a := s.mu[c].prevOut
  let b := s.mu[c].out
  if ratable a && ratable b && decide (a.value < 0) && decide (0 ≤ b.value) then
    some (s.prevStamp + (((s.stamp - s.prevStamp : Nat) : Int) * (-a.value) / (b.value - a.value)).toNat)
  else none

/-- Least and greatest interval in range, µs (R163): 65 to 45 Hz. -/
def intervalInRange (x : Nat) : Bool := decide (15385 ≤ x ∧ x ≤ 22222)

/-- The crossings missed a time after a crossing: at 1.25 periods, and at each further period (R164). -/
def missesAfter (period since : Nat) : Nat :=
  if 9 * period < 4 * since then 2 else if 5 * period < 4 * since then 1 else 0

/-- The interval measured by a crossing: from the crossing before, if none was missed between (R163). -/
def measuredInterval (y : Sync) (t : Nat) : Option Nat :=
  match y.lastCross with
  | some l => if missesAfter y.period (t - l) = 0 then some (t - l) else none
  | none => none

/-- The mean of the four intervals, truncated (R163). -/
def meanOf (v : Vector Nat 4) : Nat := (v[0] + v[1] + v[2] + v[3]) / 4

/-- A new interval enters the four; the oldest falls out (R163). -/
def pushInterval (v : Vector Nat 4) (x : Nat) : Vector Nat 4 := #v[x, v[0], v[1], v[2]]

/-- A VALID sync becomes LOST (R164). -/
def loseSync (cause : Nat) (s : State) : State :=
  let s := s.onSync fun y => { y with valid := false, acq := 0, missed := 0, seqFault := 0, lastCross := none }
  emitRcu .syncLost 2 cause s

/-- An interval in range at a crossing (R163). -/
def Sync.goodInterval (x : Nat) (y : Sync) : Sync :=
  let v := pushInterval y.intervals x
  if y.valid then { y with intervals := v, period := meanOf v }
  else if y.acq + 1 = 4 then { y with intervals := v, acq := 4, period := meanOf v, valid := true }
  else { y with intervals := v, acq := y.acq + 1 }

/-- A crossing of sync voltage channel 1 (R163, R164). -/
def crossingOne (t : Nat) (s : State) : State :=
  let x := measuredInterval s.rcu.sync t
  let s := s.onSync fun y => { y with ref := t, missed := 0, lastCross := some t }
  match x with
  | none => s
  | some d =>
    if intervalInRange d then s.onSync (Sync.goodInterval d)
    else if s.rcu.sync.valid then loseSync 1 s
    else s.onSync fun y => { y with acq := 0 }

/-- The missed count at an instant without a crossing since the last; at 2 the sync is LOST (R164). -/
def missCheck (t : Nat) (s : State) : State :=
  match s.rcu.sync.valid, s.rcu.sync.lastCross with
  | true, some l =>
    let n := max s.rcu.sync.missed (missesAfter s.rcu.sync.period (t - l))
    if 2 ≤ n then loseSync 2 s else s.onSync fun y => { y with missed := n }
  | _, _ => s

/-- The phase counter at the instant of a crossing, which may lie before the last wrap (R164). -/
def Sync.counterAtCrossing (y : Sync) (t : Nat) : Nat :=
  if y.ref ≤ t then y.counterAt t else (t + y.period - y.ref) * 3600 / y.period

/-- The sequence check at a crossing of sync voltage channel 2 or 3 (R164). -/
def sequenceCheck (lo hi t : Nat) (s : State) : State :=
  let y := s.rcu.sync
  if y.valid then
    if lo ≤ y.counterAtCrossing t ∧ y.counterAtCrossing t ≤ hi then s.onSync fun y => { y with seqFault := 0 }
    else if y.seqFault + 1 = 2 then loseSync 3 s
    else s.onSync fun y => { y with seqFault := y.seqFault + 1 }
  else s

/-- The crossings of a frame: misses up to the crossing or the frame's stamp, channel 1, then channels 2 and 3. -/
def syncFrame (s : State) : State :=
  let s :=
    match crossingOf s s.rect.sync1 with
    | some t => crossingOne t (missCheck t s)
    | none => missCheck s.stamp s
  let s := match crossingOf s s.rect.sync2 with
    | some t => sequenceCheck 1050 1350 t s
    | none => s
  match crossingOf s s.rect.sync3 with
    | some t => sequenceCheck 2250 2550 t s
    | none => s

/-! ## Blocking and running (R166, R167, R173) -/

/-- The AC breaker is CLOSED. -/
def State.acClosed (s : State) : Bool := (s.breaker acBreaker).position == .closed

/-- The first blocking condition that holds (R166). -/
def blockCause (s : State) : Option Nat :=
  if !s.rcu.sync.valid then some 1
  else if !s.acClosed then some 2
  else if s.busOut.quality = .invalid then some 3
  else none

/-- Entry to BLOCKED (R166, R181). A phase-back is abandoned: its block timer, of which the spec then gives no value,
reads 0 (R182; log 45, DESIGN CHOICE). -/
def enterBlocked (cause : Nat) (s : State) : State :=
  let s := s.onRcu fun u => { u.stopFiring with state := .blocked, blockTimer := 0, integ := 0, cause := cause }
  emitRcu .rectBlocked 2 cause s

/-- The blocking test of a frame (R166). -/
def blockingTest (s : State) : State :=
  if s.rcu.state = .blocked then s
  else
    match blockCause s with
    | some c => enterBlocked c s
    | none => s

/-- The conditions for leaving BLOCKED (R167). -/
def State.mayRun (s : State) : Bool := s.rcu.sync.valid && s.acClosed && s.busOut.quality == .valid

/-- An RCU in BLOCKED begins to fire when the conditions hold (R167). -/
def leaveBlocked (s : State) : State :=
  if s.rcu.state = .blocked ∧ s.mayRun = true then
    match s.su.inUse, s.su.reason with
    | some _, _ => beginFiring .softStart 1 s.rect.aMax s
    | none, .scrub => beginFiring .fixed 4 (fallbackAlpha s.straps) s
    | none, .powerOn => s
  else s

/-- The end of the phase-back time (R173). -/
def phaseBackEnd (s : State) : State :=
  if s.rcu.state = .phaseBack ∧ s.rcu.blockTimer = 0 then
    let s := s.onRcu fun u => { u with state := .softStart, alpha := s.rect.aBlock }
    emitRcu .phaseBack 1 0 s
  else s

/-- A phase-back request (R172). -/
def phaseBackRequest (s : State) : State :=
  match s.rcu.state with
  | .softStart | .regulating =>
    let s := s.onRcu fun u => { u with state := .phaseBack, integ := 0, blockTimer := s.rect.tBlock }
    emitRcu .phaseBack 1 1 (repoint s.rect.aBlock s)
  | .phaseBack => s.onRcu fun u => { u with blockTimer := s.rect.tBlock }
  | .blocked | .fixed => s

/-! ## Regulation (R169, R170) -/

/-- U_ref (R169, step 1). -/
def reference (v : RectView) (uset : Nat) (iRect : Int) : Int :=
  min (v.uRefMax : Int) ((uset : Int) + ((v.kc : Int) * iRect).tdiv 1000)

/-- The integrator (R169, step 3). -/
def integrate (v : RectView) (alpha : Nat) (a e : Int) : Int :=
  if (alpha = v.aMin ∧ 0 < e) ∨ (alpha = v.aMax ∧ e < 0) then a
  else clampInt 0 (1024 * (v.ud0 : Int)) (a + v.ki * e)

/-- V_v (R170, step 1). -/
def demandV (v : RectView) (a e : Int) : Int :=
  clampInt 0 v.ud0 (((v.kp : Int) * e).tdiv 16 + a.tdiv 1024)

/-- V_i (R170, step 2). -/
def demandI (v : RectView) (uBus iRect : Int) : Int :=
  if (v.iLim : Int) < iRect then max 0 (uBus - ((v.kl : Int) * (iRect - v.iLim)).tdiv 1000) else v.ud0

/-- The firing law, interpolated (R170, step 4). -/
def lawAngle (law : Nat → Nat) (ud0 vd : Nat) : Int :=
  let x := 64 * vd / ud0
  let r := 64 * vd - x * ud0
  if x = 64 then law 64 else (law x : Int) + (((law (x + 1) : Int) - law x) * r).tdiv ud0

/-- What one frame's regulation gives. -/
structure Regulated where
  uref : Int
  integ : Int
  vd : Nat
  alpha : Nat
  deriving DecidableEq, Repr

/-- The regulation of a frame from its inputs (R169, R170). -/
def regulated (v : RectView) (law : Nat → Nat) (uset alpha : Nat) (integ uBus iRect : Int) : Regulated :=
  let uref := reference v uset iRect
  let e := uref - uBus
  let a := integrate v alpha integ e
  let vd := (min (demandV v a e) (demandI v uBus iRect)).toNat
  ⟨uref, a, vd, (clampInt v.aMin v.aMax (lawAngle law v.ud0 vd)).toNat⟩

/-- The frame's regulation, in SOFT_START and REGULATING alone (R169). In the other states U_ref and V_d keep the values
of the last regulation, and QUERY RECTIFIER shows them (R182; log 44, DESIGN CHOICE). -/
def regulate (s : State) : State :=
  match s.rcu.state with
  | .softStart | .regulating =>
    let r := regulated s.rect (lawAt s.su.inUse) s.rcu.uset s.rcu.alpha s.rcu.integ s.uBus s.iRect
    s.onRcu fun u => { u with uref := r.uref, integ := r.integ, vd := r.vd, calcAlpha := r.alpha }
  | .blocked | .phaseBack | .fixed => s

/-! ## Overload and overvoltage (R176, R179) -/

/-- An overload or overvoltage record after a frame at a value: level, time, and the level that clears the flags. -/
def Over.step (level time : Nat) (clear value : Int) (o : Over) : Over :=
  let n := if (level : Int) ≤ value then min time (o.count + 1) else 0
  let pickup := o.pickup || decide ((level : Int) ≤ value)
  let raised := o.raised || decide (time ≤ n)
  if value < clear then ⟨n, false, false⟩ else ⟨n, pickup, raised⟩

/-- The pickup flag is set in this frame. -/
def Over.picksUp (level : Nat) (value : Int) (o : Over) : Bool := decide ((level : Int) ≤ value) && !o.pickup

/-- The row is raised in this frame. -/
def Over.raises (level time : Nat) (value : Int) (o : Over) : Bool :=
  decide ((level : Int) ≤ value) && decide (time ≤ o.count + 1) && !o.raised

/-- The rows of the rectifier (R93). -/
def rectOvlRow : Fin 40 := 38

/-- The OVERVOLT row (R93). -/
def overvoltRow : Fin 40 := 39

/-- The overload record of a frame (R176). -/
def overloadFrame (s : State) : State :=
  if s.iRectUsable then
    let v := s.rect
    let o := s.rcu.ovl
    let i := s.iRect
    let s := s.onRcu fun u => { u with ovl := o.step v.iOvl v.tOvl ((v.iOvl * 9 / 10 : Nat) : Int) i }
    let s := if o.picksUp v.iOvl i then emitRcu .overload 2 i s else s
    if o.raises v.iOvl v.tOvl i then raiseRow rectOvlRow i s else s
  else s

/-- The overvoltage record of a frame (R179). -/
def overvoltFrame (s : State) : State :=
  if s.busOut.quality = .invalid then s
  else
    let v := s.rect
    let o := s.rcu.ovp
    let u := s.uBus
    let s := s.onRcu fun r => { r with ovp := o.step v.uOvp v.tOvp v.uChOff u }
    let s := if o.picksUp v.uOvp u then emitRcu .overvolt 2 u s else s
    if o.raises v.uOvp v.tOvp u then raiseRow overvoltRow u s else s

/-! ## Chopper (R177, R178) -/

/-- The energy of one frame with the gate ON, mJ (R178). -/
def chopperEnergy (v : RectView) (uBus : Int) : Nat := uBus.natAbs * uBus.natAbs * 100 / v.rCh

/-- The gate state for the next frame (R177). -/
def gateNext (v : RectView) (x : Output) (c : Chopper) : Bool :=
  if x.quality = .invalid ∨ c.inhibited = true then false
  else if (v.uChOn : Int) ≤ x.value then true
  else if x.value ≤ v.uChOff then false
  else c.gate

/-- The energy image after a frame (R178). -/
def Chopper.energyFrame (v : RectView) (uBus : Int) (c : Chopper) : Chopper :=
  let e := if c.gate then c.energy + chopperEnergy v uBus else c.energy
  if 99 ≤ c.blockCount then { c with energy := e - e / (100 * v.tauCh), blockCount := 0 }
  else { c with energy := e, blockCount := c.blockCount + 1 }

/-- The inhibited flag after the energy update (R178). -/
def Chopper.inhibitNow (v : RectView) (c : Chopper) : Bool :=
  if c.inhibited then !decide (c.energy ≤ v.eMax * 500) else decide (v.eMax * 1000 ≤ c.energy)

/-- The chopper's work of a frame (R177, R178). -/
def chopperFrame (s : State) : State :=
  let v := s.rect
  let c := s.rcu.chopper.energyFrame v s.uBus
  let d := { c with inhibited := c.inhibitNow v }
  let s := s.onRcu fun u => { u with chopper := { d with gate := gateNext v s.busOut d } }
  if d.inhibited = c.inhibited then s else emitRcu .chopperInhibit 2 (if d.inhibited then 1 else 0) s

/-! ## The frame's work, setpoint, settings changes and restart -/

/-- The part of the frame's work before the matrix is applied: sync, blocking, leaving BLOCKED, the end of a
phase-back, overload and overvoltage. -/
def rcuBefore (s : State) : State :=
  let s := blockingTest (syncFrame s)
  let s := if s.wires.rcuRestart then s else leaveBlocked s
  overvoltFrame (overloadFrame (phaseBackEnd s))

/-- The part of the frame's work after the matrix is applied: regulation, the chopper, the block timer. -/
def rcuAfter (s : State) : State :=
  let s := chopperFrame (regulate s)
  if s.rcu.state = .phaseBack then s.onRcu fun u => { u with blockTimer := u.blockTimer - 1 } else s

/-- U_set after a step, clamped by the rectifier settings of the frame (R174). -/
def steppedSet (v : RectView) (uset : Nat) (step : Int) : Nat := (clampInt v.uSetMin v.uSetMax (uset + step)).toNat

/-- The three sync voltage channel numbers differ between two settings (R164). -/
def syncChannelsDiffer (a b : RectView) : Bool := a.sync1 != b.sync1 || a.sync2 != b.sync2 || a.sync3 != b.sync3

/-- A change of the sync channels loses a VALID sync (R164). -/
def syncSwitch (old : RectView) (s : State) : State :=
  if s.rcu.sync.valid && syncChannelsDiffer old s.rect then loseSync 4 s else s

/-- The RCU at the first frame of a group (R174, R175). -/
def rcuSwitch (s : State) : State :=
  let v := s.rect
  let s := s.onRcu fun u => { u with uset := v.uSet }
  match s.rcu.state with
  | .blocked => s
  | .softStart | .regulating => repoint (clampNat v.aMin v.aMax s.rcu.alpha) s
  | .phaseBack => repoint v.aBlock s
  | .fixed => emitRcu .rectRun 1 1 (s.onRcu fun u => { u with state := .softStart })

/-- The RCU at the entry into fallback operation after a scrub failure (R175). The block timer of a phase-back that is
abandoned reads 0 (log 45, DESIGN CHOICE). -/
def rcuFallback (s : State) : State :=
  match s.rcu.state with
  | .blocked | .fixed => s
  | .softStart | .regulating | .phaseBack =>
    let s := s.onRcu fun u => { u with state := .fixed, blockTimer := 0 }
    emitRcu .rectRun 1 4 (repoint (fallbackAlpha s.straps) s)

/-- What a RESTART does in the RCU (R181). -/
def rcuRestart (s : State) : State :=
  let s := s.onWires fun w => { w with rcuRestart := true }
  if s.rcu.state = .blocked then s else enterBlocked 4 s

end Sys2Proof.Machine
end

