-- ==== Sys2Proof/Machine/Counters.lean ====
section
/-! DEFINITION. The Counter Bank (10): counting of events, conditions and values, the duty currents, overflow, and the
counter commands. -/

namespace Sys2Proof.Machine

/-- A counter's range: a 40-bit value (R197). -/
def counterRange : Nat := 2 ^ 40

/-- Field j of the programme entry of a counter (R196). -/
def counterField (s : State) (n : Fin 16) (j : Nat) : Nat := (wordAt s.cb.programme (9 * n.val + j)).toNat

/-- Change one counter record. -/
def State.onCounter (s : State) (n : Fin 16) (f : Counter → Counter) : State :=
  s.onCb fun u => { u with counters := updAt u.counters n f }

/-! ## Gains and overflow (R202) -/

/-- COUNTER_OVERFLOW of a counter with its wrapped value (R202). -/
def overflowEvent (n : Fin 16) (value : Nat) : EventMsg :=
  ⟨.counter, n.val, .counterOverflow, 2, some (min eventMax value : Nat)⟩

/-- The overflow action in force: 2 FREEZE_BANK, 3 EVENT, 4 RECLOSE_BLOCK act beyond the flag (R202). -/
def overflowAction (n : Fin 16) (value : Nat) (s : State) : State :=
  match counterField s n 7 with
  | 2 => emit .cb (overflowEvent n value) (s.onWires fun w => { w with freezeNext := true })
  | 3 => emit .cb (overflowEvent n value) s
  | 4 => emit .cb (overflowEvent n value) (s.onCounter n fun c => { c with block := true, blockFeeder := counterField s n 8 })
  | _ => s

/-- A counter takes counts: the bank is RUNNING, and action FLAG has not stopped it (R202, R203). -/
def State.counterTakes (s : State) (n : Fin 16) : Bool :=
  !s.cb.frozen && !(counterField s n 7 == 1 && s.cb.counters[n].overflow)

/-- A gain of a counter that takes counts (R202). -/
def counterGain (n : Fin 16) (g : Nat) (s : State) : State :=
  let sum := s.cb.counters[n].value + g
  if sum < counterRange then s.onCounter n fun c => { c with value := sum }
  else
    let s := s.onCounter n fun c => { c with value := sum % counterRange, overflow := true }
    overflowAction n (sum % counterRange) s

/-- One count of a counter (R198, R199). -/
def countOne (n : Fin 16) (s : State) : State := if s.counterTakes n then counterGain n 1 s else s

/-- A value of a counter in mode ACCUMULATE (R200). -/
def accumulate (n : Fin 16) (v : Nat) (s : State) : State :=
  let v := if v < counterField s n 5 then 0 else v
  if v ≠ 0 ∧ s.counterTakes n = true then
    let p := 2 ^ counterField s n 6
    let t := s.cb.counters[n].sub + v
    counterGain n (t / p) (s.onCounter n fun c => { c with sub := t % p })
  else s

/-! ## Events (R198) -/

/-- The bit of an event's owner in the qualifier mask: a feeder, or 6 for the device (R198). -/
def ownerBit (m : EventMsg) : Nat :=
  match m.kind with
  | .feeder => m.index
  | .breaker => if m.index < 6 then m.index else 6
  | .drive => if m.index < 18 then m.index % 6 else 6
  | _ => 6

/-- A bit of the qualifier mask of a counter. -/
def maskBit (s : State) (n : Fin 16) (b : Nat) : Bool := (wordAt s.cb.programme (9 * n.val + 2)).getLsbD b

/-- The threshold of a counter is met by an event (R198). -/
def meetsThreshold (t : Nat) (value : Option Int) : Bool :=
  t == 0 || (match value with
    | some v => decide ((t : Int) ≤ v)
    | none => false)

/-- An event qualifies for a counter in mode EVENTS (R198). -/
def qualifies (s : State) (n : Fin 16) (m : EventMsg) : Bool :=
  counterField s n 0 == 1 && counterField s n 1 == m.code.code && maskBit s n (ownerBit m)
    && meetsThreshold (counterField s n 5) m.value

/-- The duty value that an OPENED event adds, if it is one (R200). -/
def dutyOf (s : State) (m : EventMsg) : Option Nat :=
  if m.code = .opened then
    match m.value, s.cb.duty[m.index]? with
    | some v, some d => if 0 ≤ v then some (d * d / 10000) else none
    | _, _ => none
  else none

/-- One counter's part in one event (R198, R200). -/
def countEventFor (m : EventMsg) (n : Fin 16) (s : State) : State :=
  if qualifies s n m then countOne n s
  else if counterField s n 0 == 3 && counterField s n 1 == 4 && maskBit s n (ownerBit m) then
    match dutyOf s m with
    | some v => accumulate n v s
    | none => s
  else s

/-- An event handed to the ERU reaches the CB (R198). Counters 0 to 15 are reached in ascending order, which decides the
order of their COUNTER_OVERFLOW records; R202 leaves it open (log 41, DESIGN CHOICE). -/
def countEvent (m : EventMsg) (s : State) : State := forAll 16 (countEventFor m) s

/-! ## Conditions and values (R199, R200) -/

/-- The feeders whose bit is set in a counter's mask. -/
def maskedFeeders (s : State) (n : Fin 16) : List (Fin 6) := (List.finRange 6).filter fun k => maskBit s n k.val

/-- A usable output at or above a level. -/
def atOrAbove (x : Output) (t : Nat) : Bool := x.quality != .invalid && decide ((t : Int) ≤ x.value)

/-- The condition of a counter in mode FRAMES; `s0` is the state at the start of the frame (R199). -/
def conditionOf (s0 s : State) (n : Fin 16) : Bool :=
  let t := counterField s n 5
  let device := maskBit s n 6
  match counterField s n 1 with
  | 1 => (maskedFeeders s n).any fun k => atOrAbove (s.currentOut k) t
  | 2 => device && atOrAbove s.busOut t
  | 3 => device && s0.rcu.chopper.gate
  | 4 => device && !s0.eru.queue.isEmpty
  | 5 => device && s.rcu.state == .phaseBack
  | _ => false

/-- One counter in mode FRAMES; the previous condition follows even in a FROZEN frame (R199, R203). -/
def countCondition (s0 : State) (n : Fin 16) (s : State) : State :=
  let c := conditionOf s0 s n
  let due := c && !(counterField s n 4 == 1 && s.cb.counters[n].prev)
  (if due then countOne n s else s).onCounter n fun x => { x with prev := c }

/-- The power of a feeder, kW, when both outputs are usable (R200). -/
def feederPower (s : State) (k : Fin 6) : Nat :=
  if s.summable k then (((s.voltageOut k).value * (s.currentOut k).value).tdiv 1000).toNat else 0

/-- The current magnitude of a feeder, when its output is usable (R200). -/
def feederMagnitude (s : State) (k : Fin 6) : Nat :=
  if (s.currentOut k).quality = .invalid then 0 else (s.currentOut k).value.natAbs

/-- The value of a frame for a counter in mode ACCUMULATE (R200). -/
def valueOf (s : State) (n : Fin 16) : Nat :=
  match counterField s n 1 with
  | 1 => ((maskedFeeders s n).map (feederMagnitude s)).sum
  | 2 => if maskBit s n 6 && s.iRectUsable then s.iRect.toNat else 0
  | 3 => ((maskedFeeders s n).map (feederPower s)).sum
  | _ => 0

/-- The frame's count of one counter, by its source kind (R199, R200). -/
def countFrameFor (s0 : State) (n : Fin 16) (s : State) : State :=
  match counterField s n 0 with
  | 2 => countCondition s0 n s
  | 3 => accumulate n (valueOf s n) s
  | _ => s

/-- Conditions and values of a frame (R199, R200), counters 0 to 15 in ascending order; R202 leaves the order open
(log 41, DESIGN CHOICE). -/
def countFrame (s0 s : State) : State := forAll 16 (countFrameFor s0) s

/-! ## Duty currents (R201) -/

/-- The current of a frame that a breaker carries, when usable (R201). -/
def dutyCurrent (s : State) (b : Fin 7) : Option Nat :=
  match feederOf b with
  | some k => if (s.currentOut k).quality = .invalid then none else some (s.currentOut k).value.natAbs
  | none => if s.iRectUsable then some s.iRect.natAbs else none

/-- The duty current of a breaker in a frame: 0 at a trip start, then the greatest while TRIPPING (R201). -/
def dutyStep (b : Fin 7) (s : State) : State :=
  let start := s.wires.tripStarted[b]
  if (s.breaker b).op = .tripping then
    s.onCb fun u =>
      { u with duty := updAt u.duty b fun d => max (if start then 0 else d) ((dutyCurrent s b).getD 0) }
  else s

/-- The duty current at a single trip start (R201). -/
def dutyStart (b : Fin 7) (s : State) : State := if s.wires.tripStarted[b] then dutyStep b s else s

/-! ## Programme and commands (R196, R203, R204) -/

/-- Two programmes differ in the entry of a counter. -/
def entryDiffers (a b : Vector Word 144) (n : Fin 16) : Bool :=
  (List.range 9).any fun j => wordAt a (9 * n.val + j) != wordAt b (9 * n.val + j)

/-- The effect of an accepted COUNTERS LOAD, from the next frame (R196). -/
def storeCounters (first : Nat) (ws : List Word) (s : State) : State :=
  s.onCb fun u =>
    let p := putWords u.programme (9 * first) ws
    { u with
      programme := p
      counters := mapAt u.counters fun n c =>
        if entryDiffers u.programme p n then { c with sub := 0, prev := false } else c }

/-- COUNTER FREEZE, COUNTER UNFREEZE and FREEZE_BANK act from the next frame (R202, R203). -/
def setFrozen (b : Bool) (s : State) : State := s.onCb fun u => { u with frozen := b }

/-- COUNTER RESET at the end of the frame (R204). -/
def resetCounters (mask : Word) (s : State) : State :=
  s.onCb fun u =>
    { u with
      counters := mapAt u.counters fun n c =>
        if mask.getLsbD n.val then { c with value := 0, sub := 0, overflow := false, block := false } else c }

/-- COUNTER PRELOAD at the end of the frame (R204). -/
def preloadCounter (n : Nat) (value : Nat) (s : State) : State :=
  s.onCb fun u =>
    { u with counters := mapAt u.counters fun i c => if i.val = n then { c with value := value, sub := 0 } else c }

end Sys2Proof.Machine
end

