-- ==== Sys2Proof/Machine/Records.lean ====
section
/-! DEFINITION. The Event and Record Unit (09): the event queue, the order of a frame's records, and the disturbance
recorder. -/

namespace Sys2Proof.Machine

/-! ## The event queue (R184, R185) -/

/-- The length of a full queue (R184). -/
def queueSize : Nat := 128

/-- The greatest class present in a queue. -/
def greatestClass (q : List EventRecord) : Nat := q.foldl (fun m r => max m r.msg.cls) 0

/-- The queue without its oldest record of a class. -/
def dropOldest (c : Nat) : List EventRecord → List EventRecord
  | [] => []
  | r :: rest => if r.msg.cls = c then rest else r :: dropOldest c rest

/-- A record enters the queue with the next sequence number (R184). -/
def Eru.enqueue (now : Clock) (m : EventMsg) (e : Eru) : Eru :=
  { e with queue := e.queue ++ [⟨e.next, now, m, false⟩], next := (e.next + 1) % 65536 }

/-- A record reaches the queue (R184, R185). -/
def Eru.append (now : Clock) (m : EventMsg) (e : Eru) : Eru :=
  if e.queue.length < queueSize then e.enqueue now m
  else
    let g := greatestClass e.queue
    if m.cls < g then Eru.enqueue now m { e with queue := dropOldest g e.queue }
    else { e with overflow := true, discarded := true }

/-- An event reaches the CB as it is handed, and the queue (R183, R184, R198). -/
def appendEvent (m : EventMsg) (s : State) : State := countEvent m (s.onEru (Eru.append s.scu.clock m))

/-- The blocks that have handed events not yet appended, each once. -/
def waitingBlocks (es : List (Block × EventMsg)) : List Block := (es.map Prod.fst).dedup

/-- The block whose first record goes next: the only one, or a free choice (R184; log 7). -/
def pickBlock (s : State) : Option Block :=
  match waitingBlocks s.wires.events with
  | [] => none
  | [b] => some b
  | b :: bs => some ((b :: bs).getD (Config.eventPick s.free (bs.length + 1) % (bs.length + 1)) b)

/-- A choice has been made among several blocks. -/
def countChoice (s : State) : State :=
  if (waitingBlocks s.wires.events).length ≤ 1 then s else { s with free := s.free + 1 }

/-- The first waiting record of a block, and the rest. -/
def takeFirst (b : Block) : List (Block × EventMsg) → Option (EventMsg × List (Block × EventMsg))
  | [] => none
  | (c, m) :: rest =>
    if c = b then some (m, rest)
    else
      match takeFirst b rest with
      | some (m', rest') => some (m', (c, m) :: rest')
      | none => none

/-- The records handed in the frame reach the queue, each block's in its own order (R184). COUNTER_OVERFLOW records
that the counting of a record gives join them (R198, R202). -/
def appendWaiting : Nat → State → State
  | 0, s => s
  | fuel + 1, s =>
    match pickBlock s with
    | none => s
    | some b =>
      match takeFirst b s.wires.events with
      | none => s
      | some (m, rest) =>
        appendWaiting fuel (appendEvent m ((countChoice s).onWires fun w => { w with events := rest }))

/-- The START record goes ahead of every other record of its frame (R187). -/
def appendStart (s : State) : State :=
  s.eru.startDue.foldl (fun s m => appendEvent m s) (s.onEru fun e => { e with startDue := [] })

/-- Enough turns for the records handed and one overflow of each counter. -/
def appendFuel (s : State) : Nat := s.wires.events.length + 32

/-- The records of a frame reach the queue. -/
def appendEvents (s : State) : State :=
  let s := appendStart s
  appendWaiting (appendFuel s) s

/-! ## The recorder (R188 to R193) -/

/-- The decimation of a programme (R188). -/
def decimation (p : Programme) : Nat := p[8].toNat

/-- The pre-trigger entries of a programme (R188). -/
def preEntries (p : Programme) : Nat := 2048 * p[9].toNat / 100

/-- Entry to CAPTURE with the stored programme (R189). -/
def RecBuffer.capture (p : Programme) (b : RecBuffer) : RecBuffer :=
  { b with state := .capture, programme := p, write := 0, written := 0, decim := 0, pre := 0, post := 0, source := .none }

/-- The code of a position in a status word (R46). -/
def positionBits : Position → BitVec 32
  | .opn => 0 | .closed => 1 | .travel => 2 | .discrepant | .unknown => 3

/-- A flag at a bit of a status word. -/
def statusBit (b : Bool) (n : Nat) : BitVec 32 := if b then 1#32 <<< n else 0

/-- The status word of a frame (R46, R190). -/
def statusWord (s : State) : BitVec 32 :=
  let feeders := (List.finRange 6).foldl (fun w k =>
    let f := s.feeder k
    w ||| statusBit f.ocTripped k.val ||| statusBit (f.rr == .tripped) (6 + k.val) ||| statusBit f.thTripped (12 + k.val)) 0
  (List.finRange 7).foldl (fun w b => w ||| (positionBits (s.breaker b).position <<< (18 + 2 * b.val))) feeders

/-- A recorded value (R46, R190). -/
def recordedValue (x : Output) : Word :=
  if x.quality = .invalid then 0x8000 else BitVec.ofInt 16 (clampInt (-32767) 32767 x.value)

/-- The entry of a frame under a programme (R190). -/
def entryOf (s : State) (p : Programme) : RecEntry where
  vals := Vector.ofFn fun j => recordedValue (s.output (channelNo p[j.val].toNat))
  status := statusWord s

/-- A buffer writes entries: CAPTURE or POST. -/
def RecBuffer.writing (b : RecBuffer) : Bool := b.state == .capture || b.state == .post

/-- The decimation count one frame on (R190). -/
def RecBuffer.decimNext (b : RecBuffer) : Nat := if decimation b.programme ≤ b.decim + 1 then 0 else b.decim + 1

/-- An entry is written (R190). -/
def RecBuffer.put (x : RecEntry) (b : RecBuffer) : RecBuffer :=
  { b with
    ring := if h : b.write < 2048 then b.ring.set b.write x else b.ring
    write := (b.write + 1) % 2048
    written := min 2048 (b.written + 1)
    post := if b.state = .post then b.post - 1 else b.post }

/-- A frame of a buffer (R190). -/
def RecBuffer.frame (s : State) (b : RecBuffer) : RecBuffer :=
  if b.writing then
    let b' := if b.decim = 0 then b.put (entryOf s b.programme) else b
    { b' with decim := b.decimNext }
  else b

/-- Change one buffer. -/
def State.onBuffer (s : State) (i : Fin 2) (f : RecBuffer → RecBuffer) : State :=
  s.onEru fun e => { e with buffers := updAt e.buffers i f }

/-- The other buffer. -/
def otherBuffer (i : Fin 2) : Fin 2 := if i = 0 then 1 else 0

/-- A buffer in POST has written its last entry (R192). -/
def RecBuffer.complete (b : RecBuffer) : Bool := b.state == .post && b.post == 0

/-- A complete record is HELD, and the other buffer enters CAPTURE from the next frame if it is FREE (R192). -/
def holdRecord (i : Fin 2) (s : State) : State :=
  let b := s.eru.buffers[i]
  let s := s.onBuffer i fun b => { b with state := .held, number := s.eru.heldCount }
  let s := s.onEru fun e => { e with heldCount := (e.heldCount + 1) % 65536 }
  let s := emit .eru ⟨.recorder, i.val, .recordHeld, 1, some b.pre⟩ s
  if s.eru.buffers[otherBuffer i].state = .free then s.onBuffer (otherBuffer i) (RecBuffer.capture s.eru.programme)
  else s.onEru fun e => { e with stopped := true }

/-- The test for a complete record (R192). -/
def holdStep (i : Fin 2) (s : State) : State := if s.eru.buffers[i].complete then holdRecord i s else s

/-- The frame's entries, then complete records (R190, R192). -/
def recorderWrite (s : State) : State :=
  forAll 2 holdStep (s.onEru fun e => { e with buffers := mapAt e.buffers fun _ b => b.frame s })

/-- The trigger source of a frame (R191). -/
def triggerSource (matrix command : Bool) : TrigSource :=
  match matrix, command with
  | true, true => .both
  | true, false => .matrix
  | false, true => .command
  | false, false => .none

/-- A buffer in CAPTURE enters POST (R191). -/
def RecBuffer.trigger (src : TrigSource) (now : Clock) (b : RecBuffer) : RecBuffer :=
  let p := min b.written (preEntries b.programme)
  { b with state := .post, pre := p, post := 2048 - p, source := src, time := now }

/-- A trigger reaches the recorder (R191). -/
def takeTrigger (src : TrigSource) (s : State) : State :=
  if s.eru.buffers[0].state = .capture then s.onBuffer 0 (RecBuffer.trigger src s.scu.clock)
  else if s.eru.buffers[1].state = .capture then s.onBuffer 1 (RecBuffer.trigger src s.scu.clock)
  else if s.eru.buffers[0].state = .post ∨ s.eru.buffers[1].state = .post then s
  else emit .eru ⟨.recorder, 0, .recordMissed, 2, none⟩ s

/-- The trigger of a frame, if there is one (R191). -/
def triggerStep (s : State) : State :=
  match triggerSource s.wires.matrixTrigger s.wires.commandTrigger with
  | .none => s
  | src => takeTrigger src s

/-- RELEASE RECORD of a HELD buffer, in its frame (R193). -/
def releaseRecord (i : Fin 2) (s : State) : State :=
  (s.onBuffer i fun b => { b with state := .free }).onEru fun e => { e with stopped := false }

/-- After a release that ended a stop of capture, the buffer enters CAPTURE from the next frame (R193). -/
def captureAfterRelease (wasStopped : Bool) (i : Fin 2) (s : State) : State :=
  if wasStopped then s.onBuffer i (RecBuffer.capture s.eru.programme) else s

/-- The effect of an accepted RECORDER LOAD, from the next frame (R188). -/
def storeRecorder (ws : List Word) (s : State) : State :=
  s.onEru fun e =>
    let p := putWords e.programme 0 ws
    if p = e.programme then e
    else
      { e with
        programme := p
        buffers := mapAt e.buffers fun _ b =>
          if b.state = .capture then { b with programme := p, written := 0, decim := 0 } else b }

/-- The START record of a RESTART (R187). -/
def eruRestart (s : State) : State :=
  s.onEru fun e => { e with startDue := e.startDue ++ [⟨.service, 0, .start, 1, some 1⟩] }

end Sys2Proof.Machine
end

