-- ==== Sys2Proof/Machine/Service.lean ====
section
/-! DEFINITION. The Service Channel Unit (02): the clock, the byte handshakes, assembly, the work state and the up
transmitter. -/

namespace Sys2Proof.Machine

/-! ## Clock (R37) -/

/-- The clock one frame on (R37). -/
def Clock.next (c : Clock) : Clock :=
  if c.frame < 9 then { c with frame := c.frame + 1 }
  else if c.ms < 86399999 then ⟨c.day, c.ms + 1, 0⟩
  else ⟨(c.day + 1) % 65536, 0, 0⟩

/-- The clock at the start of a frame: advanced, or loaded by a SET TIME of the frame before (R37). -/
def clockStep (s : State) : State :=
  s.onScu fun u =>
    match u.clockLoad with
    | some c => { u with clock := c, clockLoad := none, timeSet := true }
    | none => if s.fresh then u else { u with clock := u.clock.next }

/-! ## Work state and replies (R31) -/

/-- A REPLY becomes pending (R31). -/
def setReply (r : Reply) (s : State) : State :=
  s.onScu fun u => { u with work := .replyPending, job := none, reply := some r }

/-- A refusal by the SCU itself, with no data (R29, R30, R31). -/
def refuseWith (echo : Byte) (r : Result) (s : State) : State := setReply ⟨echo, r, [], false⟩ s

/-- A telegram is handed to its owner (R31). -/
def handOver (q : Request) (s : State) : State :=
  s.onScu fun u => { u with work := .working, job := some q }

/-- A complete telegram is checked and refused or handed over (R29, R30). -/
def completeTelegram (bytes : List Byte) (s : State) : State :=
  let s := s.onScu fun u => { u with assembly := .empty, buffer := [] }
  match checkTelegram bytes with
  | .refuse r => refuseWith (bytes.getD 0 0) r s
  | .accept q => handOver q s

/-! ## Assembly (R29) -/

/-- The length field of a partial telegram. -/
def telegramLength (bytes : List Byte) : Nat := (wordOf (bytes.getD 1 0) (bytes.getD 2 0)).toNat

/-- A byte without SOT in ASSEMBLING (R29). -/
def appendByte (data : Byte) (s : State) : State :=
  let bytes := s.scu.buffer ++ [data]
  if bytes.length < 3 then s.onScu fun u => { u with buffer := bytes }
  else if 1024 < telegramLength bytes then
    refuseWith (bytes.getD 0 0) .length (s.onScu fun u => { u with assembly := .discarding, buffer := [] })
  else if bytes.length = 5 + telegramLength bytes then completeTelegram bytes s
  else s.onScu fun u => { u with buffer := bytes }

/-- A byte taken is handled according to the assembly state and its SOT (R29). -/
def assemble (data : Byte) (sot : Bool) (s : State) : State :=
  if sot then s.onScu fun u => { u with assembly := .assembling, buffer := [data] }
  else
    match s.scu.assembly with
    | .empty | .discarding => s
    | .assembling => appendByte data s

/-! ## Down receiver (R26, R28, R29, R32) -/

/-- A byte with SOT is held back while the work state is not FREE (R32). -/
def State.holdsBack (s : State) (sot : Bool) : Bool := sot && s.scu.work != .free

/-- The receiver takes a byte: WT inverts, the gap count returns to 0 (R26, R29). -/
def takeOffered (data : Byte) (sot : Bool) (s : State) : State :=
  assemble data sot (s.onScu fun u => { u with wt := !u.wt, gap := 0, pair := none })

/-- The gap count reaches 200: a partial telegram is discarded (R29). -/
def gapDiscard (s : State) : State :=
  match s.scu.assembly with
  | .empty => s
  | .assembling | .discarding => s.onScu fun u => { u with assembly := .empty, buffer := [] }

/-- A frame without a take: the gap count runs on (R29). -/
def gapStep (s : State) : State :=
  if s.scu.gap < 199 then s.onScu fun u => { u with gap := u.gap + 1 }
  else gapDiscard (s.onScu fun u => { u with gap := 200 })

/-- The second of two consecutive ABORT words (R28). -/
def abortReceived (wv : Bool) (s : State) : State :=
  s.onScu fun u => { u with assembly := .empty, buffer := [], wt := wv, abortRun := 2, pair := none }

/-- The frame's word is an offer (R26). -/
def offerOf (s : State) (w : ServiceWord) : Option Offer :=
  if w.wv != s.scu.wt && !w.abort then some ⟨w.wv, w.data, w.sot⟩ else none

/-- The down receiver at the end of a frame (R26, R28, R29). -/
def receiveDown (word : Option ServiceWord) (s : State) : State :=
  match word with
  | none => gapStep (s.onScu fun u => { u with pair := none, abortRun := 0 })
  | some w =>
    if w.abort then
      if s.scu.abortRun = 1 then gapStep (abortReceived w.wv s)
      else gapStep (s.onScu fun u => { u with pair := none, abortRun := min 2 (u.abortRun + 1) })
    else
      let s := s.onScu fun u => { u with abortRun := 0 }
      match offerOf s w with
      | none => gapStep (s.onScu fun u => { u with pair := none })
      | some o =>
        if s.scu.pair = some o ∧ s.holdsBack o.sot = false then takeOffered o.data o.sot s
        else gapStep (s.onScu fun u => { u with pair := some o })

/-! ## Up sender (R25, R27, R28, R38) -/

/-- A REPLY telegram starts (R38). -/
def startReply (r : Reply) (s : State) : State :=
  s.onScu fun u => { u with up := some ⟨.reply, r.telegram, true, false⟩ }

/-- An EVENT telegram with the oldest 1 to 8 records starts (R39). -/
def startEvent (s : State) : State :=
  let s' := s.onEru fun e =>
    { e with queue := (e.queue.take 8).map (fun r => { r with carried := true }) ++ e.queue.drop 8 }
  s'.onScu fun u => { u with up := some ⟨.event, eventTelegram (s.eru.queue.take 8), true, false⟩ }

/-- The transmitter is free (R38). -/
def State.upFree (s : State) : Bool := s.scu.up.isNone && s.scu.abortCount == 0

/-- In a frame in which the transmitter is free, the pending REPLY goes first, then an EVENT (R38). -/
def upStart (s : State) : State :=
  if s.upFree then
    match s.scu.reply with
    | some r => startReply r s
    | none => if s.eru.queue = [] then s else startEvent s
  else s

/-- The sender may present its next byte (R27). -/
def State.mayPresent (s : State) : Bool :=
  match s.scu.up with
  | some t => s.scu.abortCount == 0 && !t.presented && !(t.atType && s.scu.level)
  | none => false

/-- The sender presents a byte by inverting its WV (R27). -/
def presentByte (s : State) : State :=
  if s.mayPresent then
    s.onScu fun u =>
      { u with wv := !u.wv, lastWt := none, up := u.up.map fun t => { t with presented := true } }
  else s

/-- The service-out word of the frame (R25, R28, R42). -/
def State.serviceOut (s : State) : ServiceWord :=
  let idle : ServiceWord := ⟨0xFF, false, s.scu.wv, s.scu.wt, s.scu.abortCount != 0⟩
  match s.scu.up with
  | some t => if t.presented then { idle with data := t.bytes.headD 0xFF, sot := t.atType } else idle
  | none => idle

/-- The last ABORT frame has been transmitted: the sender is idle with its WV (R28). -/
def endAbort (s : State) : State :=
  s.onScu fun u => { u with abortCount := 0, lastAck := u.wv, lastWt := none, level := true }

/-- A frame in which slot 47 was transmitted lowers the abort count (R28). -/
def abortStep (s : State) : State :=
  if s.scu.abortCount = 1 then endAbort s
  else s.onScu fun u => { u with abortCount := u.abortCount - 1 }

/-- The last byte of an up telegram has been taken: a REPLY frees the work state and may clear the queue-overflow
flag, an EVENT leaves the queue without the records it carried (R31, R35, R39, R186). -/
def upComplete (kind : UpKind) (s : State) : State :=
  let s := s.onScu fun u => { u with up := none }
  match kind with
  | .reply =>
    let shown := match s.scu.reply with
      | some r => r.showsOverflow
      | none => false
    (s.onScu fun u => { u with work := .free, reply := none }).onEru fun e =>
      if shown && !e.discarded then { e with overflow := false } else e
  | .event => s.onEru fun e => { e with queue := e.queue.filter fun r => !r.carried }

/-- The presented byte has been taken (R27). -/
def upTaken (s : State) : State :=
  match s.scu.up with
  | none => s
  | some t =>
    let s := s.onScu fun u =>
      { u with lastAck := u.wv, up := some { t with bytes := t.bytes.tail, atType := false, presented := false } }
    if t.bytes.tail = [] then upComplete t.kind s else s

/-- The incoming WT equals the sender's WV in two consecutive frames (R27). -/
def wtPair (s : State) (wt : Bool) : Bool := wt == s.scu.wv && s.scu.lastWt == some wt

/-- A byte is presented and not yet taken. -/
def State.presented (s : State) : Bool :=
  match s.scu.up with
  | some t => t.presented
  | none => false

/-- The up sender at the end of a frame (R27). The WT of a frame that carried the device's own ABORT does not count. -/
def receiveAck (word : Option ServiceWord) (aborted : Bool) (s : State) : State :=
  match word with
  | none => s.onScu fun u => { u with lastWt := none }
  | some w =>
    if aborted then s
    else
      let paired := wtPair s w.wt
      let s' := s.onScu fun u => { u with lastWt := some w.wt }
      if !paired then s'
      else if s.presented then upTaken s'
      else s'.onScu fun u => { u with level := false, lastAck := u.wv }

/-! ## RESTART (R40) -/

/-- What a RESTART does in the SCU (R28, R40). -/
def scuRestart (s : State) : State :=
  let s := s.onScu fun u =>
    { u with
      assembly := .empty, buffer := [], gap := 0, work := .free, job := none, reply := none, pair := none
      up := none, abortCount := 2, lastWt := none, level := true }
  s.onEru fun e => { e with queue := e.queue.map fun r => { r with carried := false } }

/-- A set clock from the next frame (R37). -/
def loadClock (day : Word) (ms : BitVec 32) (s : State) : State :=
  s.onScu fun u => { u with clockLoad := some ⟨day.toNat, ms.toNat, 0⟩ }

end Sys2Proof.Machine
end

