-- ==== Sys2Proof/Machine/SettingsUnit.lean ====
section
/-! DEFINITION. The Settings Unit (05): applying the trip matrix, intertrip-out holds, changes of the settings in use,
verification and scrub. -/

namespace Sys2Proof.Machine

/-! ## Applying the trip matrix (R107, R108, R109) -/

/-- The AC_BF row, whose trip mask is ignored (R107). -/
def acBfRow : Fin 40 := 37

/-- The feeder of a feeder row (R93). -/
def rowFeeder (r : Fin 40) : Option (Fin 6) := if h : r.val < 36 then some ⟨r.val / 6, by omega⟩ else none

/-- The place of a row within its feeder's six: 0 OC, 1 RR, 2 TH, 3 UV, 4 BF, 5 IT (R93). -/
def rowPlace (r : Fin 40) : Nat := r.val % 6

/-- The source of a row's TRIP event (R109). -/
def tripSource (r : Fin 40) : SourceKind × Nat :=
  match rowFeeder r with
  | some k => if rowPlace r = 4 then (.breaker, k.val) else (.feeder, k.val)
  | none =>
    match r.val with
    | 36 => (.bus, 0)
    | 37 => (.breaker, 6)
    | _ => (.rectifier, 0)

/-- The TRIP event of a raised row (R109). -/
def tripEvent (s : State) (x : RowRaise) : EventMsg :=
  ⟨(tripSource x.row).1, (tripSource x.row).2, .trip, (s.matrixRow x.row).cls, some x.value⟩

/-- The raises of the frame in ascending row index (R109). -/
def raisesInOrder (rows : List RowRaise) : List RowRaise :=
  (List.finRange 40).flatMap fun r => rows.filter fun x => x.row == r

/-- The trip mask that a row applies (R107). -/
def appliedTrip (s : State) (r : Fin 40) : Word := if r = acBfRow then 0 else (s.matrixRow r).trip

/-- Some raised row of the frame has this property. -/
def anyRow (rows : List RowRaise) (p : Fin 40 → Bool) : Bool := rows.any fun x => p x.row

/-- A merged action sets a feeder's intertrip-out bit and its hold (R110). -/
def setIntertrip (k : Fin 6) (s : State) : State :=
  let f := s.feederRec k
  if f.outPresent then
    (setCommandBit f.outWord f.outBit true s).onSu fun u => { u with holds := u.holds.set k ⟨true, 0⟩ }
  else s

/-- A merged reclose start for a feeder. -/
def handStart (k : Fin 6) (s : State) : State := s.onWires fun w => { w with starts := w.starts.set k true }

/-- The rows whose raising the SU notifies to the RCL as interrupting a line test: OC, RR, TH, BF (R146). -/
def noticeRow (k : Fin 6) (r : Fin 40) : Bool :=
  rowFeeder r == some k && (rowPlace r == 0 || rowPlace r == 1 || rowPlace r == 2 || rowPlace r == 4)

/-- The RCL's notice of a feeder's raised rows (R146). -/
def handNotice (k : Fin 6) (s : State) : State := s.onWires fun w => { w with rowNotice := w.rowNotice.set k true }

/-- Do an operation when a condition holds. -/
def doIf (c : Bool) (f : State → State) (s : State) : State := if c then f s else s

/-- Every row raised in the frame is applied with the matrix in use, the actions merged (R107, R108, R109). -/
def applyRows (s : State) : State :=
  let rows := s.wires.rows
  let row := s.matrixRow
  let trips (b : Fin 7) := anyRow rows fun r => (appliedTrip s r).getLsbD b.val
  let outs (k : Fin 6) := anyRow rows fun r => (row r).intertrip.getLsbD k.val
  let starts (k : Fin 6) := anyRow rows fun r => (row r).reclose && rowFeeder r == some k
  let s := emitAll .su ((raisesInOrder rows).map (tripEvent s)) (s.onWires fun w => { w with rows := [] })
  let s := forAll 7 (fun b s => doIf (trips b) (tripRequest b) s) s
  let s := forAll 6 (fun k s => doIf (outs k) (setIntertrip k) s) s
  let s := doIf (anyRow rows fun r => (row r).phaseBack) phaseBackRequest s
  let s := doIf (anyRow rows fun r => (row r).record) (fun s => s.onWires fun w => { w with matrixTrigger := true }) s
  let s := forAll 6 (fun k s => doIf (starts k) (handStart k) s) s
  forAll 6 (fun k s => doIf (anyRow rows (noticeRow k)) (handNotice k) s) s

/-! ## Intertrip-out holds (R110) -/

/-- The hold of a feeder ends: the bit is cleared (R110). -/
def endHold (k : Fin 6) (s : State) : State :=
  let f := s.feederRec k
  (setCommandBit f.outWord f.outBit false s).onSu fun u => { u with holds := u.holds.set k ⟨false, 0⟩ }

/-- One frame of a feeder's hold (R110). -/
def holdFrame (k : Fin 6) (s : State) : State :=
  let h := s.su.holds[k]
  if !h.flag then s
  else if s.breakerOpen k then
    if 200 ≤ h.count + 1 then endHold k s
    else s.onSu fun u => { u with holds := u.holds.set k ⟨true, h.count + 1⟩ }
  else s.onSu fun u => { u with holds := u.holds.set k ⟨true, 0⟩ }

/-! ## Groups (R89, R90) -/

/-- The record of a group. -/
def Su.groupRec (u : Su) : Group → GroupRec
  | .a => u.a
  | .b => u.b

/-- Change the record of one group. -/
def Su.onRec (g : Group) (f : GroupRec → GroupRec) (u : Su) : Su :=
  match g with
  | .a => { u with a := f u.a }
  | .b => { u with b := f u.b }

/-- The other group. -/
def otherGroup : Group → Group
  | .a => .b
  | .b => .a

/-- The number of a group in events and replies: 1 A, 2 B (R33, R45). -/
def groupNumber : Group → Nat
  | .a => 1
  | .b => 2

/-- The group of a telegram's group field, already checked. -/
def groupOf (b : Byte) : Group := if b = 1 then .a else .b

/-- A group's state changes. -/
def setGroup (g : Group) (st : GroupState) (s : State) : State :=
  s.onSu fun u => u.onRec g fun r => { r with state := st }

/-- A disturbance of a stored word (R101). -/
def disturb (d : Disturbance) (s : State) : State :=
  s.onSu fun u => u.onRec d.group fun r => { r with words := r.words.set d.index d.value }

/-! ## Changes of the settings in use (R99, R100, R106) -/

/-- The hold of a feeder is kept when it owns the same bit under both settings (R100). -/
def keepsHold (a b : FeederView) : Bool :=
  a.outPresent && b.outPresent && a.outWord == b.outWord && a.outBit == b.outBit

/-- The holds at the first frame of new settings (R100). -/
def holdsSwitch (old : Option InUse) (s : State) : State :=
  s.onSu fun u =>
    { u with
      holds := mapAt u.holds fun k h =>
        if keepsHold (feederView s.straps old k) (s.feederRec k) then h else ⟨false, 0⟩ }

/-- The blocks take new settings at their first frame, with the effects of R99 that do not depend on which change it
is (R21, R59, R84, R85, R100). -/
def takeSettings (new : Option InUse) (s : State) : State :=
  let old := s.su.inUse
  let s := s.onSu fun u => { u with inUse := new }
  let s := changeOwners old (holdsSwitch old s)
  let s := s.onMu fun m => mapAt m fun c ch => ch.switch (chanView s.straps old c) (s.chan c)
  s.onFpu fun u =>
    { u with feeders := mapAt u.feeders fun k f => f.switch (feederView s.straps old k) (s.feederRec k) }

/-- The entry into fallback operation after a scrub failure (R105, R155, R175). RECT_RUN goes before a SYNC_LOST of the
same change; the spec is silent on their order (log 41, DESIGN CHOICE). In a FRAME the attempt counts are 0 from its
start and LOCKOUT follows with the sequences' own work, so that a QUERY FEEDER answered between shows the count 0 with
the state of the frame before (log 53, DESIGN CHOICE); log 55 (DESIGN CHOICE) names what else such a query shows. -/
def enterFallback (s : State) : State :=
  let old := rectView s.su.inUse
  let s := (takeSettings none s).onSu fun u => { u with reason := .scrub, scrubFailed := false, scrubTimer := 0 }
  let s := (rclFallback s).onWires fun w => { w with fallbackNotice := true }
  syncSwitch old (rcuFallback s)

/-- A group comes into use (R98, R99, R106, R154, R174, R175). RECT_RUN goes before a SYNC_LOST of the same change; the
spec is silent on their order (log 41, DESIGN CHOICE). -/
def activateGroup (g : Group) (words : Contents) (s : State) : State :=
  let old := rectView s.su.inUse
  let s := (takeSettings (some ⟨g, words⟩) s).onSu fun u => { u with scrubTimer := 0 }
  syncSwitch old (rcuSwitch (forAll 6 rclSwitch s))

/-! ## Verification (R96, R97, R98) -/

/-- The frames from the start of a verification to its result: from c+1 to c+64 (R96). -/
def verifyFrames : Nat := 63

/-- An accepted ACTIVATE: the group becomes VERIFYING and its contents are taken (R96). -/
def startVerify (g : Group) (expected : Word) (s : State) : State :=
  (setGroup g .verifying s).onSu fun u => { u with verify := some ⟨g, expected, (u.groupRec g).words, verifyFrames⟩ }

/-- The echoed type byte of an ACTIVATE (R33). -/
def activateByte : Byte := 3

/-- A failed verification: the group becomes EDITED and the reply says why (R98). -/
def verifyFails (g : Group) (r : Result) (data : List Byte) (s : State) : State :=
  setReply ⟨activateByte, r, data, false⟩ (setGroup g .edited s)

/-- A passed verification (R98). -/
def verifyPasses (v : Verify) (c : Word) (s : State) : State :=
  let s := s.onSu fun u =>
    (u.onRec v.group fun r => { r with state := .active, crc := c }).onRec (otherGroup v.group) fun r =>
      { r with state := if r.state = .active then .standby else r.state }
  let s := activateGroup v.group v.words s
  let s := setReply ⟨activateByte, .done, [], false⟩ s
  emit .su ⟨.group, groupNumber v.group, .groupActive, 1, some c.toNat⟩ s

/-- The result of a verification (R98). -/
def endVerify (v : Verify) (s : State) : State :=
  let s := s.onSu fun u => { u with verify := none }
  let c := groupCrc v.words
  if c ≠ v.expected then verifyFails v.group .crcMismatch (wordBytes c) s
  else
    match firstFailure s.straps v.words with
    | some f => verifyFails v.group .checkFailed (byte1 f.table :: wordBytes (word1 f.index)) s
    | none => verifyPasses v c s

/-- A frame of a verification: in frame c+64 its result is taken (R96, R98). -/
def verifyStep (s : State) : State :=
  match s.su.verify with
  | none => s
  | some v =>
    if v.left ≤ 1 then endVerify v s
    else s.onSu fun u => { u with verify := some { v with left := v.left - 1 } }

/-! ## Scrub (R101) -/

/-- A scrub of the ACTIVE group: a changed CRC is a scrub failure, with its effects due in the next frame (R101). -/
def scrubGroup (g : Group) (s : State) : State :=
  let r := s.su.groupRec g
  let c := groupCrc r.words
  let s := s.onSu fun u => { u with scrubTimer := 0 }
  if c = r.crc then s
  else
    emit .su ⟨.group, groupNumber g, .scrubFail, 2, some c.toNat⟩ (s.onSu fun u => { u with scrubFailed := true })

/-- The effects of a scrub failure in the frame after it: the group becomes EDITED and fallback operation begins
(R101, R105). -/
def afterScrub (s : State) : State :=
  match s.su.scrubFailed, s.su.inUse with
  | true, some u => enterFallback (setGroup u.group .edited s)
  | _, _ => s

/-- One frame of the scrub timer; it rests in the first frame of an activation (R101). -/
def scrubStep (activated : Bool) (s : State) : State :=
  match s.su.inUse with
  | none => s
  | some u =>
    if activated then s
    else if 9999 ≤ s.su.scrubTimer then scrubGroup u.group s
    else s.onSu fun u => { u with scrubTimer := u.scrubTimer + 1 }

/-- A group has come into use: an ACTIVE group is never activated again (R96), so the group in use differs. -/
def activatedBy (before after : State) : Bool :=
  before.su.inUse.map InUse.group != after.su.inUse.map InUse.group

/-- The Settings Unit at the start of a frame: the switch of settings, then the scrub timer. -/
def settingsFrame (s : State) : State :=
  let s1 := afterScrub s
  let s2 := verifyStep s1
  scrubStep (activatedBy s1 s2) s2

/-! ## Storing a LOAD (R91) -/

/-- An accepted LOAD of a group table, from the next frame (R91). -/
def storeGroup (g : Group) (t : GroupTable) (first : Nat) (ws : List Word) (s : State) : State :=
  s.onSu fun u =>
    u.onRec g fun r =>
      { r with state := .edited, words := putWords r.words (tableBase t + tableWidth t * first) ws }

end Sys2Proof.Machine
end

