-- ==== Sys2Proof/Machine/Owners.lean ====
section
/-! DEFINITION. What the owner of a telegram answers from the state at the start of its frame (R31), what it does in
that frame, and what takes effect from the next frame. -/

namespace Sys2Proof.Machine

/-! ## Query data (R23, R44, R60, R88, R134, R158, R182, R195, R205) -/

/-- The code of a sync state (R44). -/
def SyncState.code : SyncState → Nat
  | .search => 0 | .locking => 1 | .run => 2 | .holdover => 3 | .lost => 4

/-- The code of a group state (R44). -/
def GroupState.code : GroupState → Nat
  | .empty => 0 | .edited => 1 | .verifying => 2 | .active => 3 | .standby => 4

/-- The six words of an indication word (R44). -/
def Indication.words (d : Indication) : List Word := [d.agreed, flagWord (!d.valid)] ++ clockWords d.changed

/-- The master status, held or driven (R44). -/
def masterStatus (s : State) : Nat :=
  match s.straps.role with
  | .follower => (if s.sbi.heldTimeSet then 1 else 0) + (if s.sbi.heldFallback then 2 else 0)
  | .master => (if s.scu.timeSet then 1 else 0) + (if s.inFallback then 2 else 0)

/-- The active group (R44). -/
def activeGroup (s : State) : Nat :=
  match s.su.inUse with
  | some u => groupNumber u.group
  | none => 0

/-- The role code (R44). -/
def roleCode : Role → Nat
  | .follower => 0
  | .master => 1

/-- The STATUS data: 131 words (R44). -/
def statusWords (s : State) : List Word :=
  [word1 (roleCode s.straps.role), s.straps.addr.setWidth 16, word1 s.sbi.sync.code, word1 s.sbi.missing]
    ++ word2 s.sbi.blind ++ [word1 s.sbi.position, word1 (masterStatus s)] ++ clockWords s.scu.clock
    ++ [flagWord s.scu.timeSet, word1 s.su.a.state.code, word1 s.su.b.state.code, word1 (activeGroup s),
        flagWord s.inFallback, word1 s.eru.queue.length, flagWord s.eru.overflow]
    ++ s.sbi.commands.toList ++ s.sbi.words.toList.flatMap Indication.words

/-- The code of a quality (R44, R60). -/
def Quality.code : Quality → Nat
  | .valid => 0 | .held => 1 | .saturated => 2 | .invalid => 3

/-- The MEASUREMENTS data (R44, R60). -/
def measurementWords (s : State) : List Word :=
  s.mu.toList.flatMap fun ch => word2 ch.out.value ++ [word1 ch.out.quality.code]

/-- The code of an RR state (R88). -/
def RrState.code : RrState → Nat
  | .idle => 0 | .rising => 1 | .tripped => 2

/-- The FPU's words of the FEEDER data (R88). Where the query is answered in the first frame of fallback operation
after a scrub failure, the rate is 0 when that change gives the feeder another current channel number, since the
history is set INVALID already (R84, R85), and intertrip-in present is still that of the frame before, since R66 forms
it later in the frame (log 55, DESIGN CHOICE). -/
def feederWords (s : State) (k : Fin 6) : List Word :=
  let f := s.feeder k
  [flagWord (s.inService k), flagWord f.serviceOut, word1 f.ocCount, flagWord f.ocTripped, word1 f.rr.code]
    ++ word2 f.i0 ++ [word1 f.rise, word1 f.endCount, word1 f.resetCount, word1 f.closeBlock]
    ++ word2 ((rateOf f.history).getD 0) ++ word2 f.theta
    ++ [flagWord f.thAlarm, flagWord f.thTripped, flagWord f.permit, word1 f.uvTimer, flagWord f.uvPicked,
        flagWord f.intertrip]

/-- The code of a sequence state (R158). -/
def SeqState.code : SeqState → Nat
  | .idle => 0 | .deadTime => 1 | .precheck => 2 | .lineTest => 3 | .closing => 4 | .reclaim => 5 | .lockout => 6

/-- The code of a phase (R158). -/
def Phase.code : Phase → Nat
  | .none => 0 | .request => 1 | .starting => 2 | .settle => 3 | .sum => 4 | .closeWait => 5 | .closeEnergised => 6

/-- The RCL's words of the FEEDER data (R158). -/
def seqWords (s : State) (k : Fin 6) : List Word :=
  let q := s.seq k
  [word1 q.state.code, word1 q.phase.code, word1 q.attempts] ++ word2 q.timer ++ word2 q.precheck ++ word2 q.sumU
    ++ word2 q.sumI ++ [word1 q.samples] ++ word2 q.lastR
    ++ [word1 q.reason.code, word1 q.wait.code, word1 q.live, flagWord (s.counterBlocks k)]

/-- The code of a position (R134). -/
def Position.code : Position → Nat
  | .opn => 0 | .closed => 1 | .travel => 2 | .discrepant => 3 | .unknown => 4

/-- The code of an operation (R134). -/
def Operation.code : Operation → Nat
  | .none => 0 | .tripping => 1 | .closing => 2

/-- The code of a drive channel state (R134). -/
def DriveState.code : DriveState → Nat
  | .off => 0 | .peak => 1 | .hold => 2 | .quench => 3 | .check => 4

/-- The five words of a drive channel (R134). -/
def driveWords (s : State) (c : Fin 20) : List Word :=
  let d := s.drive c
  [word1 d.state.code, flagWord (s.driveRec c).enabled, word1 d.ramp] ++ word2 d.cool

/-- The BREAKER data (R134). -/
def breakerWords (s : State) (b : Fin 7) : List Word :=
  let r := s.breaker b
  [word1 r.position.code, flagWord (s.isFitted b), word1 r.op.code, word1 r.count, word1 r.lastTime,
    word1 r.latches.code] ++ driveWords s (tripChannel b) ++ driveWords s (closeChannel b)
    ++ (match feederOf b with
      | some k => driveWords s (testChannel k)
      | none => [0, 0, 0, 0, 0])

/-- The code of an RCU state (R182). -/
def RcuState.code : RcuState → Nat
  | .blocked => 0 | .softStart => 1 | .regulating => 2 | .phaseBack => 3 | .fixed => 4

/-- The flags of an overload or overvoltage record (R182). -/
def Over.flags (o : Over) : Nat := (if o.pickup then 1 else 0) + (if o.raised then 2 else 0)

/-- The next thyristor, or 12 (R182). -/
def nextThyristor (u : Rcu) : Nat :=
  match u.pendingThy with
  | some n => n.val
  | none => 12

/-- The RECTIFIER data (R182). A negative U_ref, which R169 does not exclude, reads as its low 16 bits in two's
complement (log 52, DESIGN CHOICE). -/
def rectifierWords (s : State) : List Word :=
  let u := s.rcu
  [word1 u.state.code, word1 u.cause, flagWord u.sync.valid, word1 u.sync.period, word1 s.phaseCounter,
    word1 u.sync.acq, word1 u.sync.missed, word1 u.alpha, word1 u.calcAlpha, word1 u.uset, BitVec.ofInt 16 u.uref]
    ++ word2 s.uBus ++ word2 s.iRect ++ word2 u.integ
    ++ [word1 u.vd, word1 u.blockTimer, word1 (nextThyristor u), flagWord u.chopper.gate, flagWord u.chopper.inhibited]
    ++ word3 u.chopper.energy
    ++ [word1 u.ovl.count, word1 u.ovl.flags, word1 u.ovp.count, word1 u.ovp.flags]

/-- The five words of a counter (R205). -/
def Counter.words (c : Counter) : List Word :=
  word3 c.value ++ [word1 c.sub,
    word1 ((if c.overflow then 1 else 0) + (if c.block then 2 else 0) + (if c.prev then 4 else 0))]

/-- The feeders held by a reclose block, one bit each (R205). -/
def blockWord (s : State) : Word :=
  (List.finRange 6).foldl (fun w k => w ||| bitAt (s.counterBlocks k) k.val) 0

/-- The COUNTERS data (R205). -/
def counterWords (s : State) : List Word :=
  [flagWord s.cb.frozen, blockWord s] ++ s.cb.counters.toList.flatMap Counter.words

/-- The code of a buffer state (R195). -/
def BufState.code : BufState → Nat
  | .free => 0 | .capture => 1 | .post => 2 | .held => 3

/-- The code of a trigger source (R195). -/
def TrigSource.code : TrigSource → Nat
  | .none => 0 | .matrix => 1 | .command => 2 | .both => 3

/-- The twenty words of a buffer (R195). -/
def RecBuffer.infoWords (b : RecBuffer) : List Word :=
  [word1 b.state.code, word1 b.written, word1 b.pre, word1 b.post, word1 b.source.code] ++ clockWords b.time
    ++ [word1 b.number, b.programme[8], b.programme[9]] ++ b.programme.toList.take 8

/-- The RECORD INFO data (R195). -/
def recordInfoWords (s : State) : List Word :=
  flagWord s.eru.stopped :: s.eru.buffers.toList.flatMap RecBuffer.infoWords

/-- Entry n of a HELD record, the oldest first (R194). -/
def RecBuffer.entry (b : RecBuffer) (n : Nat) : RecEntry :=
  if h : (b.write + n) % 2048 < 2048 then b.ring[(b.write + n) % 2048] else b.ring[0]

/-- The ten words of a recorded entry (R46). -/
def RecEntry.words (x : RecEntry) : List Word :=
  x.vals.toList ++ [(x.status >>> 16).setWidth 16, x.status.setWidth 16]

/-- The RECORD data (R46, R194). -/
def recordWords (i : Fin 2) (b : RecBuffer) (first count : Nat) : List Word :=
  [word1 i.val, word1 first, word1 count] ++ (List.range count).flatMap fun n => (b.entry (first + n)).words

/-! ## Answers (R31) -/

/-- The result and data of a reply, and whether it is a STATUS reply that shows the queue-overflow flag set. -/
structure Answer where
  result : Result
  data : List Byte
  shows : Bool
  deriving DecidableEq, Repr

/-- A result without data. -/
def plain (r : Result) : Answer := ⟨r, [], false⟩

/-- DONE with words. -/
def withWords (ws : List Word) : Answer := ⟨.done, bytesOf ws, false⟩

/-- The first failure of a list of checks, or DONE. -/
def firstOf (checks : List (Option Result)) : Answer := plain ((checks.findSome? id).getD .done)

/-- A feeder number already checked by the SCU. -/
def feederNo (b : Byte) : Fin 6 := ⟨b.toNat % 6, Nat.mod_lt _ (by decide)⟩

/-- A breaker number already checked by the SCU. -/
def breakerNo (b : Byte) : Fin 7 := ⟨b.toNat % 7, Nat.mod_lt _ (by decide)⟩

/-- A buffer number already checked by the SCU. -/
def bufferNo (b : Byte) : Fin 2 := ⟨b.toNat % 2, Nat.mod_lt _ (by decide)⟩

/-- The group-state check of a LOAD (R91, step 1). -/
def loadState : GroupState → Option Result
  | .active => some .inUse
  | .verifying => some .busy
  | .empty | .edited | .standby => none

/-- The index check of a table (R12, R19, R91, R188, R196 and the field tables). -/
def indexCheck (t : TableId) (first count : Word) : Option Result :=
  unlessOk (indexOk t.lowest t.highest first.toNat count.toNat) .badIndex

/-- The field check of a LOAD (R12 step 3, R19, R91 step 3, R188, R196). -/
def fieldCheck (s : State) (t : TableId) (count : Word) (ws : List Word) : Option Result :=
  let ok : Nat → List Word → Bool :=
    match t with
    | .group g => fun _ => entryOk (fieldTable g)
    | .slotMap => fun _ e => slotEntryOk s.straps.addr (slotEntryOf e)
    | .indication => fun _ _ => true
    | .recorder => fun _ => entryOk recorderFields
    | .counters => fun _ => counterEntryOk
  unlessOk (everyEntry ok t.width count.toNat ws) .badValue

/-- The consistency check of a SLOT_MAP LOAD (R12, step 4). -/
def uniqueCheck (s : State) (t : TableId) (first count : Word) (ws : List Word) : Option Result :=
  match t with
  | .slotMap => unlessOk (mapUnique (mapWith s.sbi.map first.toNat ws count.toNat)) .badValue
  | _ => none

/-- The answer to a LOAD (R12, R19, R91, R188, R196). R12 and R91 put the index check before the field check; R188 and
R196 name both without an order, and the model checks a RECORDER or COUNTERS LOAD in that same order (log 54,
DEDUCED). -/
def answerLoad (s : State) (t : TableId) (g : Byte) (first count : Word) (ws : List Word) : Answer :=
  firstOf [ if t.wantsGroup then loadState (s.su.groupRec (groupOf g)).state else none,
    indexCheck t first count, fieldCheck s t count ws, uniqueCheck s t first count ws ]

/-- The stored words of a table (R14, R19, R92, R188, R196). -/
def storedWords (s : State) (t : TableId) (g : Byte) (first count : Nat) : List Word :=
  match t with
  | .group x => takeWords (s.su.groupRec (groupOf g)).words (tableBase x + tableWidth x * first) (tableWidth x * count)
  | .slotMap => ((s.sbi.map.toList.drop first).take count).flatMap SlotEntry.words
  | .indication => ((s.sbi.words.toList.drop first).take count).map Indication.mask
  | .recorder => takeWords s.eru.programme (10 * first) (10 * count)
  | .counters => takeWords s.cb.programme (9 * first) (9 * count)

/-- The answer to a READ (R14, R44, R92). -/
def answerRead (s : State) (t : TableId) (g : Byte) (first count : Word) : Answer :=
  match indexCheck t first count with
  | some r => plain r
  | none =>
    ⟨.done, [byte1 t.code, g] ++ bytesOf [first, count] ++ bytesOf (storedWords s t g first.toNat count.toNat), false⟩

/-- The answer to an ACTIVATE; none when it is accepted (R96). -/
def answerActivate (s : State) (g : Byte) : Option Answer :=
  match (s.su.groupRec (groupOf g)).state with
  | .empty | .active => some (plain .refusedState)
  | .verifying => some (plain .busy)
  | .edited | .standby => none

/-- The answer to CLOSE FEEDER (R152). -/
def answerClose (s : State) (k : Fin 6) : Answer :=
  plain (if s.inService k && !(s.seq k).state.busy then .done else .refusedState)

/-- The answer of the owner from the state at the start of its frame; none where no reply is built at once: an
accepted ACTIVATE (R96) and a RESTART (R40). -/
def answer (s : State) : Request → Option Answer
  | .load t g first count ws => some (answerLoad s t g first count ws)
  | .read t g first count => some (answerRead s t g first count)
  | .activate g _ => answerActivate s g
  | .openBreaker _ | .openAll | .triggerRecord | .counterFreeze | .counterUnfreeze | .counterReset _
  | .counterPreload .. | .setTime .. | .feederService .. => some (plain .done)
  | .closeFeeder k => some (answerClose s (feederNo k))
  | .closeAc => some (plain ((closeCheck s acBreaker).getD .done))
  | .clearLatch b => some (plain (if s.allOff (breakerNo b) then .done else .refusedState))
  | .resetLockout k => some (plain (if (s.seq (feederNo k)).state = .lockout then .done else .refusedState))
  | .setpointStep _ => some (plain (if s.inFallback then .refusedState else .done))
  | .setOutput w b _ =>
    some (plain (if (bitOwner s.straps s.su.inUse w.toNat b.toNat).isSome then .badValue else .done))
  | .releaseRecord b => some (plain (if s.eru.buffers[bufferNo b].state = .held then .done else .refusedState))
  | .queryStatus => some ⟨.done, bytesOf (statusWords s), s.eru.overflow⟩
  | .queryMeasurements => some (withWords (measurementWords s))
  | .queryFeeder k => some (withWords (feederWords s (feederNo k) ++ seqWords s (feederNo k)))
  | .queryBreaker b => some (withWords (breakerWords s (breakerNo b)))
  | .queryRectifier => some (withWords (rectifierWords s))
  | .queryCounters => some (withWords (counterWords s))
  | .queryRecordInfo => some (withWords (recordInfoWords s))
  | .queryRecord b first count =>
    let r := s.eru.buffers[bufferNo b]
    some (if r.state = .held then withWords (recordWords (bufferNo b) r first.toNat count.toNat) else plain .refusedState)
  | .restart => none

/-- The request is taken: its owner acts on it. -/
def accepted (s0 : State) (q : Request) : Bool :=
  match answer s0 q with
  | some a => a.result == .done
  | none => true

/-- The REPLY becomes pending with the answer (R31); a STATUS reply starts anew the watch for discards (R35). -/
def giveReply (q : Request) (a : Answer) (s : State) : State :=
  let s := setReply ⟨q.typeByte, a.result, a.data, a.shows⟩ s
  if q = .queryStatus then s.onEru fun e => { e with discarded := false } else s

/-- An accepted ACTIVATE leaves the work state WORKING with no telegram in hand (R31, R96); a RESTART has already set
it FREE (R40). -/
def giveAnswer (s0 : State) (q : Request) (s : State) : State :=
  match answer s0 q with
  | some a => giveReply q a s
  | none => s.onScu fun u => { u with job := none }

/-! ## What the owner does in the frame of its answer -/

/-- U_set after an accepted SETPOINT STEP (R174). -/
def newSetpoint (s0 : State) (change : Word) : Nat := steppedSet s0.rect s0.rcu.uset change.toInt

/-- Every block's own RESTART but the SCU's (R40, R133, R156, R181, R187). -/
def blocksRestart (s : State) : State := eruRestart (rcuRestart (forAll 6 rclRestart (bduRestart s)))

/-- The action of an accepted request in the frame of its answer. -/
def ownerNow (s0 : State) (q : Request) (s : State) : State :=
  match q with
  | .activate g c => startVerify (groupOf g) c s
  | .openBreaker b => commandOpen (breakerNo b) s
  | .closeFeeder k => s.onWires fun w => { w with seqCommand := some (feederNo k, .closeFeeder) }
  | .closeAc => startClose acBreaker s
  | .openAll => commandOpenAll s0 s
  | .clearLatch b => clearLatches (breakerNo b) s
  | .resetLockout k => s.onWires fun w => { w with seqCommand := some (feederNo k, .resetLockout) }
  | .setpointStep change => emitRcu .setpoint 1 (newSetpoint s0 change) s
  | .triggerRecord => s.onWires fun w => { w with commandTrigger := true }
  | .releaseRecord b => releaseRecord (bufferNo b) s
  | .restart => blocksRestart s
  | .load .. | .read .. | .setOutput .. | .feederService .. | .counterFreeze | .counterUnfreeze | .counterReset _
  | .counterPreload .. | .queryStatus | .queryMeasurements | .queryFeeder _ | .queryBreaker _ | .queryRectifier
  | .queryCounters | .queryRecordInfo | .queryRecord .. | .setTime .. => s

/-! ## What takes effect from the next frame -/

/-- An accepted LOAD (R13, R19, R91, R188, R196). -/
def storeLoad (t : TableId) (g : Byte) (first count : Nat) (ws : List Word) (s : State) : State :=
  match t with
  | .group x => storeGroup (groupOf g) x first ws s
  | .slotMap => storeSlotMap first count ws s
  | .indication => storeMasks first ws s
  | .recorder => storeRecorder ws s
  | .counters => storeCounters first ws s

/-- The effect of an accepted request at the end of its frame. -/
def ownerEnd (s0 : State) (q : Request) (s : State) : State :=
  match q with
  | .load t g first count ws => storeLoad t g first.toNat count.toNat ws s
  | .setpointStep change => s.onRcu fun u => { u with uset := newSetpoint s0 change }
  | .setOutput w b v => setCommandBit w.toNat b.toNat (v == 1) s
  | .feederService k flag => setService (feederNo k) (flag == 0) s
  | .releaseRecord b => captureAfterRelease s0.eru.stopped (bufferNo b) s
  | .counterFreeze => setFrozen true s
  | .counterUnfreeze => if s0.cb.frozen then setFrozen false s else s
  | .counterReset mask => resetCounters mask s
  | .counterPreload n v => preloadCounter n.toNat v.toNat s
  | .setTime day ms => loadClock day ms s
  | .read .. | .activate .. | .openBreaker _ | .closeFeeder _ | .closeAc | .openAll | .clearLatch _ | .resetLockout _
  | .triggerRecord | .queryStatus | .queryMeasurements | .queryFeeder _ | .queryBreaker _ | .queryRectifier
  | .queryCounters | .queryRecordInfo | .queryRecord .. | .restart => s

end Sys2Proof.Machine
end

