-- ==== Sys2Proof/Machine/Frame.lean ====
section
/-! DEFINITION. One frame of device time (R9): the order of the blocks' work (log 6); and how the effects of a single
event or telegram reach the other blocks. -/

namespace Sys2Proof.Machine

/-! ## The parts of a frame -/

/-- The signals between the blocks end with the frame. -/
def clearWires (s : State) : State := s.onWires fun _ => Wires.none

/-- The state at the start of a frame, from which telegrams are answered (R31): the trip-taken flags are "no" (R119),
disturbances of the settings storage have happened (R101), and what changes "from" this frame has changed: the group
states and settings in use after a failed scrub or a passed verification (R98, R99, R101; log 47, DEDUCED). The
positions of breakers fitted anew or no longer are formed by the frame's own work, so that a telegram answered in the
frame sees the new fitted state with the position of the frame before (R31, R119, R132; log 49, DEDUCED). -/
def startOfFrame (inp : FrameInput) (s : State) : State :=
  let s := clearWires (s.onBdu fun u => { u with breakers := mapAt u.breakers fun _ r => { r with tripTaken := false } })
  settingsFrame (inp.disturbed.foldl (fun s d => disturb d s) s)

/-- The opening of a frame: the counts of the BDU, the clock, and the stamp of the frame's measurement vector (R162). -/
def openFrame (s : State) : State :=
  let s := clockStep (bduCounts s)
  { s with prevStamp := s.stamp, stamp := s.timer }

/-- The bus up to what the device drives: synchronisation, the blind time, the up transmitter, the slots (R4 to R9,
R20, R25, R27, R38). -/
def busOut (inp : FrameInput) (s : State) : State :=
  let s := upStart (blindCheck (syncStep inp s))
  let s := doIf s.driving presentByte s
  let s := transmit s.sbi.commands s.serviceOut.word s
  doIf (s.driving && s.scu.abortCount != 0) abortStep s

/-- What the bus brings: tag checks, indication words, the master status (R3, R15 to R19). The SBI's own records come
in this order, which chapter 01 does not fix: BUS_SYNC or BUS_LOST (`busOut`), SLOT_CONFLICT in slot order,
INDICATION_CHANGE in word order (R16, R184; log 41, DESIGN CHOICE). -/
def busIn (inp : FrameInput) (s : State) : State := holdMasterStatus inp (indicationsStep inp (checkSlots inp s))

/-- The owner of the telegram in hand answers it and acts on it (R31). -/
def serveNow (s0 : State) (job : Option Request) (s : State) : State :=
  match job with
  | none => s
  | some q => doIf (accepted s0 q) (ownerNow s0 q) (giveAnswer s0 q s)

/-- What an accepted request changes from the next frame. -/
def serveEnd (s0 : State) (job : Option Request) (s : State) : State :=
  match job with
  | none => s
  | some q => doIf (accepted s0 q) (ownerEnd s0 q) s

/-- The breakers at the end of their part: duty currents, ends of operations, events of positions (R120, R126, R201). -/
def settleBreakers (s0 s : State) : State :=
  forAll 7 (fun b s => noteFitted b (settleBreaker (s0.breaker b).position b (dutyStep b s))) s

/-- The device's own ABORT stood in slot 47 of this frame (R28). -/
def State.sentAbort (s : State) : Bool :=
  match s.sbi.sent[47] with
  | some w => (serviceOf w.data).abort
  | none => false

/-- The service word is received: the down direction first, so that a byte is not taken in the frame in which the
reply before it frees the work state (R26, R27, R32). -/
def receiveService (inp : FrameInput) (s : State) : State :=
  let w := serviceIn s.sbi inp
  receiveAck w s.sentAbort (receiveDown w s)

/-- A FREEZE_BANK overflow of the frame freezes the bank from the next frame (R202). -/
def freezeStep (s : State) : State := doIf s.wires.freezeNext (setFrozen true) s

/-- The end of a frame. -/
def closeFrame (inp : FrameInput) (s : State) : State :=
  let s := forAll 6 closeBlockStep (forAll 7 markMoved (freezeStep s))
  clearWires { receiveService inp s with fresh := false }

/-- One frame of the device (R9), from the frame's inputs. A telegram in hand is answered, and acted on, from the
state at the start of the frame, before the µs of the frame run (R31; logs 6 and 47). A RESTART in the first frame of
fallback operation is taken before the fallback notice, so that RESTART is the reason of the sequences that it sends
to LOCKOUT (R155, R156; log 50, DESIGN CHOICE). -/
def frameWork (inp : FrameInput) (s : State) : State :=
  let job := s.scu.job
  let s0 := startOfFrame inp s
  let s := doIf (job == some .restart) scuRestart (openFrame s0)
  let s := serveNow s0 job (busOut inp s)
  let s := rcuRun inp.micros (drivesRun inp.micros s)
  let s := busIn inp s
  let s := measure (rawFor s.sbi inp) s
  let s := rcuBefore (fpuFrame (formPositions s))
  let s := applyRows (forAll 7 failureCheck s)
  let s := forAll 6 holdFrame (settleBreakers s0 s)
  let s := rcuAfter (forAll 6 rclFrame s)
  let s := countFrame s0 (recorderWrite (triggerStep s))
  closeFrame inp (serveEnd s0 job (appendEvents s))

/-! ## A single event -/

/-- There is a record to append: one handed by a block, or the START of a RESTART. -/
def State.hasRecords (s : State) : Bool := !s.wires.events.isEmpty || s.eru.startDue.any fun m => m.kind == .service

/-- The records handed reach the queue, if there are any; a START still due goes ahead of them (R184, R187). -/
def flush (s : State) : State := clearWires (freezeStep (doIf s.hasRecords appendEvents s))

/-- The effects of a single event on the other blocks, in the order of a frame: the rows raised are applied, the
operations that have reached their end settle, the sequences take the notices, a trigger is taken, the records reach
the queue. -/
def settle (s : State) : State :=
  let s := applyRows s
  let s := forAll 7 (fun b s => settleBreaker (s.breaker b).position b (dutyStart b s)) s
  let s := forAll 6 rclReact (forAll 7 markMoved s)
  flush (triggerStep s)

/-- A single event: its work when it is due, with its effects on the other blocks; otherwise nothing (log 2). -/
def event (due : Bool) (work : State → State) (s : State) : State := if due then settle (work s) else s

/-- A single event that raises no row and hands no block anything but records. -/
def quietEvent (due : Bool) (work : State → State) (s : State) : State := if due then flush (work s) else s

/-! ## A single telegram -/

/-- What a request hands the other blocks needs settling. -/
def Request.reaches : Request → Bool
  | .openBreaker _ | .closeFeeder _ | .closeAc | .openAll | .resetLockout _ | .triggerRecord | .restart => true
  | .load .. | .read .. | .activate .. | .clearLatch _ | .setpointStep _ | .setOutput .. | .feederService ..
  | .releaseRecord _ | .counterFreeze | .counterUnfreeze | .counterReset _ | .counterPreload .. | .queryStatus
  | .queryMeasurements | .queryFeeder _ | .queryBreaker _ | .queryRectifier | .queryCounters | .queryRecordInfo
  | .queryRecord .. | .setTime .. => false

/-- The owner serves a request: answer, action, effects on the other blocks, effects from the next frame. -/
def serve (q : Request) (s : State) : State :=
  let s0 := s
  let s := serveNow s0 (some q) (doIf (q == .restart) scuRestart s)
  serveEnd s0 (some q) (if q.reaches then settle s else flush s)

/-- A complete telegram arrives: held back while the work state is not FREE (R32); otherwise assembly is EMPTY and the
work state WORKING, the SCU checks the telegram, and its owner serves it (R30, R31; log 3). -/
def telegram (q : Request) (s : State) : State :=
  if s.scu.work = .free then
    let s := s.onScu fun u => { u with assembly := .empty, buffer := [], work := .working }
    match scuCheck q with
    | some r => refuseWith q.typeByte r s
    | none => serve q s
  else s

end Sys2Proof.Machine
end

