-- ==== Sys2Proof/Machine/BreakerCommands.lean ====
section
/-! DEFINITION. The meanings of the events of the drive channels and breakers. -/

namespace Sys2Proof.Machine

/-- The channel is in a state whose time runs out within one frame (R115, R117, R118). -/
def State.runsOut (s : State) (c : Fin 20) (st : DriveState) : Bool :=
  (s.drive c).state == st && decide ((s.drive c).limit ≤ (s.drive c).timer + 100)

/-- PEAK_REACHED (R115): CSP is first seen high. -/
def execPeakReached (c : Fin 20) (s : State) : Host.Outcome State Fault Refusal :=
  .next (event ((s.drive c).state == .peak) (peakSeen c) s)

/-- PEAK_TIMEOUT (R115). -/
def execPeakTimeout (c : Fin 20) (s : State) : Host.Outcome State Fault Refusal :=
  .next (event (s.runsOut c .peak) (peakExpired c) s)

/-- COIL_LOST (R116): the eighth low sample in a row. -/
def execCoilLost (c : Fin 20) (s : State) : Host.Outcome State Fault Refusal :=
  .next (event ((s.drive c).state == .hold && decide (7 ≤ (s.drive c).floorLow)) (floorSampled c false) s)

/-- HOLD_TIMEOUT (R117). -/
def execHoldTimeout (c : Fin 20) (s : State) : Host.Outcome State Fault Refusal :=
  .next (event (s.runsOut c .hold) (holdExpiry c) s)

/-- QUENCH_END (R118). -/
def execQuenchEnd (c : Fin 20) (s : State) : Host.Outcome State Fault Refusal :=
  .next (quietEvent (s.runsOut c .quench) (fun s => s.onDrive c Drive.enterCheck) s)

/-- The test pulse of the channel is under way (R118). -/
def State.pulseDue (s : State) (c : Fin 20) : Bool := (s.drive c).state == .check && decide ((s.drive c).timer < 20)

/-- CHECK_PULSE_END (R118): the timer stands at the pulse's 20 µs. -/
def execCheckPulseEnd (c : Fin 20) (s : State) : Host.Outcome State Fault Refusal :=
  .next (quietEvent (s.pulseDue c) (fun s => pulseEnd c (s.onDrive c fun d => { d with timer := 20 })) s)

/-- CHECK_END (R118): the channel enters OFF, which may end a failed trip operation (R126). -/
def execCheckEnd (c : Fin 20) (s : State) : Host.Outcome State Fault Refusal :=
  .next (event (s.runsOut c .check) (fun s => s.onDrive c Drive.enterOff) s)

/-- COOL_OFF_END (R114). -/
def execCoolOffEnd (c : Fin 20) (s : State) : Host.Outcome State Fault Refusal :=
  .next (quietEvent ((s.drive c).cool == 1) (fun s => s.onDrive c fun d => { d with cool := 0 }) s)

/-- The count of a trip operation reaches T_bf in force × 10 in one frame (R126). -/
def State.failureDue (s : State) (b : Fin 7) : Bool :=
  (s.breaker b).op == .tripping && (s.breaker b).count + 1 == (s.breaker b).tbf * 10

/-- BREAKER_FAILURE_CHECK (R126). -/
def execBreakerFailureCheck (b : Fin 7) (s : State) : Host.Outcome State Fault Refusal :=
  .next (event (s.failureDue b) (fun s => failureCheck b (s.onBreaker b Breaker.tick)) s)

/-- FLOOR_SAMPLE (R116): the end of an on-interval in HOLD. -/
def execFloorSample (c : Fin 20) (high : Bool) (s : State) : Host.Outcome State Fault Refusal :=
  .next (event ((s.drive c).state == .hold) (floorSampled c high) s)

end Sys2Proof.Machine
end

