-- ==== Sys2Proof/Machine/BusCommands.lean ====
section
/-! DEFINITION. The meanings of the commands of power, time, the station bus and the service byte handshake. -/

namespace Sys2Proof.Machine

/-- POWER_ON (R102): every block takes its power-on state, with the straps read. -/
def execPowerOn (p : Straps) (s : State) : Host.Outcome State Fault Refusal :=
  .next { State.powerOn p with pending := s.pending }

/-- FRAME (R9): one frame of device time. -/
def execFrame (inp : FrameInput) (s : State) : Host.Outcome State Fault Refusal := .next (frameWork inp s)

/-- The next correctly spaced frame sync is the third (R4). -/
def State.lockingDue (s : State) : Bool :=
  s.straps.role == .follower && s.sbi.sync == .search && s.sbi.searchCount == 2

/-- LOCKING_ENTRY (R4). -/
def execLockingEntry (s : State) : Host.Outcome State Fault Refusal :=
  .next (quietEvent s.lockingDue (fun s => s.onSbi Sbi.enterLocking) s)

/-- The next missing frame sync is the tenth (R6). -/
def State.busLossDue (s : State) : Bool :=
  s.straps.role == .follower && s.sbi.sync == .holdover && s.sbi.missing == 9

/-- BUS_LOST (R6, R7). -/
def execBusLost (s : State) : Host.Outcome State Fault Refusal :=
  .next (quietEvent s.busLossDue (fun s => emit .sbi busLostEvent (s.onSbi Sbi.lose)) s)

/-- The blind time of the frame that reaches the threshold, or that of now where the threshold is already reached (R8). -/
def blindReached (s : State) : State :=
  if s.blindRowDue then s else s.onSbi fun b => { b with blind := nextBlind b }

/-- BLIND_TIME_THRESHOLD (R8). -/
def execBlindTimeThreshold (s : State) : Host.Outcome State Fault Refusal :=
  .next (event (blindReached s).blindRowDue (fun s => raiseBusLost (blindReached s)) s)

/-- The next mismatch of the slot, with this tag, gives SLOT_CONFLICT (R16). -/
def State.conflictDue (s : State) (i : Fin 48) (tag : BitVec 4) : Bool :=
  s.sbi.sync == .run && checkedSlot s.sbi.map i
    && (s.sbi.checks[i].after (classify (expectedTag s.sbi.map i) ⟨0, tag⟩)).2

/-- SLOT_CONFLICT (R15, R16). -/
def execSlotConflict (i : Fin 48) (tag : BitVec 4) (s : State) : Host.Outcome State Fault Refusal :=
  .next (quietEvent (s.conflictDue i tag) (checkSlot i ⟨0, tag⟩) s)

/-- INDICATION_STALE (R18): the tenth frame in a row without a usable slot. -/
def execIndicationStale (w : Fin 16) (s : State) : Host.Outcome State Fault Refusal :=
  .next (quietEvent (s.sbi.words[w].gap == 9) (indicationStep none w) s)

/-- ABORT_END (R28): the last ABORT frame is transmitted. -/
def execAbortEnd (s : State) : Host.Outcome State Fault Refusal :=
  .next (quietEvent (s.driving && s.scu.abortCount == 1) endAbort s)

/-- TAKE_BYTE (R26, R29), unless R32 holds the byte back. The pair of offers has been formed: the byte is taken whatever
the sync state, of which the row says nothing (log 43, DESIGN CHOICE). -/
def execTakeByte (data : Byte) (sot : Bool) (s : State) : Host.Outcome State Fault Refusal :=
  .next (quietEvent (!s.holdsBack sot) (takeOffered data sot) s)

/-- A partial telegram stands and the gap count is one short of 200 (R29). -/
def State.gapDue (s : State) : Bool := s.scu.assembly != .empty && decide (199 ≤ s.scu.gap)

/-- GAP_TIMEOUT (R29). -/
def execGapTimeout (s : State) : Host.Outcome State Fault Refusal := .next (quietEvent s.gapDue gapStep s)

/-- UP_BYTE_TAKEN (R27). The two words have been received: the byte counts as taken whatever the sync state (log 43,
DESIGN CHOICE). -/
def execUpByteTaken (s : State) : Host.Outcome State Fault Refusal := .next (quietEvent s.presented upTaken s)

/-- UP_TELEGRAM_START (R38, R39). -/
def execUpTelegramStart (s : State) : Host.Outcome State Fault Refusal := .next (quietEvent s.upFree upStart s)

end Sys2Proof.Machine
end

