-- ==== Sys2Proof/Machine/FeederCommands.lean ====
section
/-! DEFINITION. The meanings of the events of the Measurement Unit, the Feeder Protection Unit and the intertrip-out
holds. -/

namespace Sys2Proof.Machine

/-- An invalid raw value now exceeds the hold allowance (R54). Due at the count equal to the allowance, where the next
invalid raw value is the first above it; a count that already stands above an allowance lowered by a settings change
(R59) is not due again (log 48, DESIGN CHOICE). No sync state and no source slot are asked for (log 43). -/
def State.holdDue (s : State) (c : Fin 32) : Bool := (s.chan c).kind != 0 && s.mu[c].hold == (s.chan c).allowance

/-- HOLD_EXPIRED (R54): the channel's work of a frame with an invalid raw value. -/
def execHoldExpired (c : Fin 32) (s : State) : Host.Outcome State Fault Refusal :=
  .next (quietEvent (s.holdDue c) (measureOne c .invalid) s)

/-- The raw value gives the last VALID result that the fill needs (R57). The raw value comes with the command: no sync
state and no source slot are asked for (log 43, DESIGN CHOICE). -/
def State.fillDue (s : State) (c : Fin 32) (raw : Word) : Bool :=
  s.mu[c].fill == 1 && (stageResult (s.chan c) s.mu[c] (rawOf raw)).quality == .valid

/-- FILL_COMPLETE (R57): the channel's work of a frame with this raw value. -/
def execFillComplete (c : Fin 32) (raw : Word) (s : State) : Host.Outcome State Fault Refusal :=
  .next (quietEvent (s.fillDue c raw) (measureOne c (rawOf raw)) s)

/-- BLANK_END (R58): the last forced frame is over. -/
def execBlankEnd (c : Fin 32) (s : State) : Host.Outcome State Fault Refusal :=
  .next (quietEvent (s.mu[c].blank == 1) (fun s => s.onMu fun m => updAt m c fun ch => { ch with blank := 0 }) s)

/-- The OC element trips on the present output (R68). -/
def State.ocDue (s : State) (k : Fin 6) : Bool :=
  s.inService k && ((s.feeder k).oc (s.feederRec k) (s.currentOut k)).ocTripped && !(s.feeder k).ocTripped

/-- OC_TRIP (R68). -/
def execOcTrip (k : Fin 6) (s : State) : Host.Outcome State Fault Refusal := .next (event (s.ocDue k) (ocStep k) s)

/-- The rise meets its trip condition (R71). -/
def State.rrTripDue (s : State) (k : Fin 6) : Bool := s.rrEvaluated k && (s.rrOutcome k).2 == .tripped

/-- RR_TRIP (R71). -/
def execRrTrip (k : Fin 6) (s : State) : Host.Outcome State Fault Refusal := .next (event (s.rrTripDue k) (rrStep k) s)

/-- The rise ends without a trip (R71). -/
def State.riseEndDue (s : State) (k : Fin 6) : Bool :=
  s.rrEvaluated k &&
    match (s.rrOutcome k).2 with
    | .ended _ => true
    | .none | .tripped => false

/-- RISE_ENDED (R71). -/
def execRiseEnded (k : Fin 6) (s : State) : Host.Outcome State Fault Refusal :=
  .next (quietEvent (s.riseEndDue k) (rrStep k) s)

/-- The reset count of a TRIPPED element reaches 10 (R72). -/
def State.rrResetDue (s : State) (k : Fin 6) : Bool :=
  s.rrEvaluated k && !s.breakerOpen k && (s.feeder k).rr == .tripped && (s.rrOutcome k).1.rr == .idle

/-- RR_RESET (R72). -/
def execRrReset (k : Fin 6) (s : State) : Host.Outcome State Fault Refusal :=
  .next (quietEvent (s.rrResetDue k) (rrStep k) s)

/-- CLOSE_BLOCK_END (R74). -/
def execCloseBlockEnd (k : Fin 6) (s : State) : Host.Outcome State Fault Refusal :=
  .next (quietEvent ((s.feeder k).closeBlock == 1) (closeBlockStep k) s)

/-- THERMAL_BLOCK_END (R75 to R78): the last frame of a thermal block. -/
def execThermalBlockEnd (s : State) : Host.Outcome State Fault Refusal :=
  .next (event (decide (99 ≤ s.fpu.thermalCount)) thermalStep s)

/-- The UV element picks up on the present output (R80). -/
def State.uvDue (s : State) (k : Fin 6) : Bool :=
  s.inService k && (s.feederRec k).full && ((s.feeder k).uv (s.feederRec k) (s.voltageOut k)).uvPicked
    && !(s.feeder k).uvPicked

/-- UV_PICKUP (R80). -/
def execUvPickup (k : Fin 6) (s : State) : Host.Outcome State Fault Refusal := .next (event (s.uvDue k) (uvStep k) s)

/-- The hold's open count reaches 200 (R110). -/
def State.releaseDue (s : State) (k : Fin 6) : Bool :=
  s.su.holds[k].flag && s.breakerOpen k && decide (199 ≤ s.su.holds[k].count)

/-- INTERTRIP_OUT_RELEASE (R110). -/
def execIntertripOutRelease (k : Fin 6) (s : State) : Host.Outcome State Fault Refusal :=
  .next (quietEvent (s.releaseDue k) (holdFrame k) s)

end Sys2Proof.Machine
end

