-- ==== Sys2Proof/Machine/RecloseCommands.lean ====
section
/-! DEFINITION. The meanings of the events of the reclose sequences. -/

namespace Sys2Proof.Machine

/-- The sequence is in this state and phase. -/
def State.seqIn (s : State) (k : Fin 6) (st : SeqState) (p : Phase) : Bool :=
  (s.seq k).state == st && (s.seq k).phase == p

/-- The dead time of the present attempt runs out in one frame (R140). -/
def State.deadDue (s : State) (k : Fin 6) : Bool :=
  (s.seq k).state == .deadTime && decide ((s.recloseRec k).dead (s.seq k).attempts * 10 ≤ (s.seq k).timer + 1)

/-- DEAD_TIME_END (R140). -/
def execDeadTimeEnd (k : Fin 6) (s : State) : Host.Outcome State Fault Refusal :=
  .next (event (s.deadDue k) (deadTimeWork k) s)

/-- Every condition of the pre-check holds (R141). -/
def State.passDue (s : State) (k : Fin 6) : Bool := (s.seq k).state == .precheck && (precheckCause s k).isNone

/-- PRECHECK_PASS (R142). -/
def execPrecheckPass (k : Fin 6) (s : State) : Host.Outcome State Fault Refusal :=
  .next (event (s.passDue k) (precheckWork k) s)

/-- A condition fails in the 100,000th frame (R141). -/
def State.waitDue (s : State) (k : Fin 6) : Bool :=
  (s.seq k).state == .precheck && (precheckCause s k).isSome && decide (100000 ≤ (s.seq k).precheck + 1)

/-- PRECHECK_TIMEOUT (R141). -/
def execPrecheckTimeout (k : Fin 6) (s : State) : Host.Outcome State Fault Refusal :=
  .next (event (s.waitDue k) (precheckWork k) s)

/-- A line test goes on in this phase (R146). -/
def State.testIn (s : State) (k : Fin 6) (p : Phase) : Bool := s.seqIn k .lineTest p && !s.testDisturbed k

/-- TEST_REQUEST (R143). -/
def execTestRequest (k : Fin 6) (s : State) : Host.Outcome State Fault Refusal :=
  .next (event (s.testIn k .request) (requestTest k) s)

/-- SETTLE_END (R144). -/
def execSettleEnd (k : Fin 6) (s : State) : Host.Outcome State Fault Refusal :=
  .next (event (s.testIn k .settle && decide ((s.recloseRec k).tSettle ≤ (s.seq k).timer + 1)) (settleWork k) s)

/-- The frame's outputs complete the sums (R144, R145). -/
def State.completeDue (s : State) (k : Fin 6) : Bool :=
  s.testIn k .sum && s.summable k && decide ((s.recloseRec k).nAvg ≤ (s.seq k).samples + 1)

/-- LINE_TEST_COMPLETE (R145). -/
def execLineTestComplete (k : Fin 6) (s : State) : Host.Outcome State Fault Refusal :=
  .next (event (s.completeDue k) (sumWork k) s)

/-- CLOSE_REQUEST (R148). -/
def execCloseRequest (k : Fin 6) (s : State) : Host.Outcome State Fault Refusal :=
  .next (event (s.seqIn k .closing .closeWait && s.allOff (breakerOf k)) (requestClose k) s)

/-- The reclaim time runs out in one frame with the breaker not OPEN (R149). -/
def State.reclaimDue (s : State) (k : Fin 6) : Bool :=
  (s.seq k).state == .reclaim && !s.breakerOpen k
    && decide ((s.recloseRec k).tReclaim * 10000 ≤ (s.seq k).timer + 1)

/-- RECLAIM_END (R149). -/
def execReclaimEnd (k : Fin 6) (s : State) : Host.Outcome State Fault Refusal :=
  .next (event (s.reclaimDue k) (reclaimWork k) s)

end Sys2Proof.Machine
end

