-- ==== Sys2Proof/Machine/RectifierCommands.lean ====
section
/-! DEFINITION. The meanings of the events of the Rectifier Control Unit and the disturbance recorder. -/

namespace Sys2Proof.Machine

/-- The crossing completes an acquisition: the fourth interval in range (R163). -/
def State.acquireDue (s : State) (interval : Nat) : Bool :=
  let y := s.rcu.sync
  !y.valid && y.acq == 3 && intervalInRange interval &&
    match y.lastCross with
    | some l => measuredInterval y (l + interval) == some interval
    | none => false

/-- SYNC_ACQUIRED (R163): a crossing of channel 1 this long after the one before. -/
def execSyncAcquired (interval : Nat) (s : State) : Host.Outcome State Fault Refusal :=
  .next (quietEvent (s.acquireDue interval) (fun s => crossingOne ((s.rcu.sync.lastCross.getD 0) + interval) s) s)

/-- A further crossing counts as missed by now (R164). -/
def State.missDue (s : State) : Bool :=
  let y := s.rcu.sync
  y.valid &&
    match y.lastCross with
    | some l => decide (y.missed < missesAfter y.period (s.timer - l))
    | none => false

/-- CROSSING_MISSED (R164); a sync that becomes LOST blocks the RCU at once (R166). -/
def execCrossingMissed (s : State) : Host.Outcome State Fault Refusal :=
  .next (event s.missDue (fun s => blockingTest (missCheck s.timer s)) s)

/-- The pending thyristor fires at an instant (R165). -/
def firesWhen (s : State) (t : Nat) : Bool := firesAt (forward s.rcu.point (s.rcu.sync.counterAt t % 3600))

/-- The pending thyristor fires within one frame (R165). -/
def State.fireDueSoon (s : State) : Bool :=
  s.rcu.pendingThy.isSome && (List.range 101).any fun j => firesWhen s (s.timer + j)

/-- The pending thyristor, fired. -/
def firePending (s : State) : State :=
  match s.rcu.pendingThy with
  | some n => fireThyristor n s
  | none => s

/-- FIRING_INSTANT (R165). -/
def execFiringInstant (s : State) : Host.Outcome State Fault Refusal :=
  .next (quietEvent s.fireDueSoon firePending s)

/-- The gate pulse ends within one frame (R165). -/
def State.pulseEndDue (s : State) (n : Fin 12) : Bool := s.gateOutput n && decide (s.rcu.pulses[n] ≤ s.timer + 100)

/-- GATE_PULSE_END (R165): the gate output goes inactive. -/
def execGatePulseEnd (n : Fin 12) (s : State) : Host.Outcome State Fault Refusal :=
  .next (quietEvent (s.pulseEndDue n) (fun s => s.onRcu fun u => { u with pulses := u.pulses.set n s.timer }) s)

/-- RECT_RUN (R167). -/
def execRectRun (s : State) : Host.Outcome State Fault Refusal := .next (quietEvent (s.rcu.state == .blocked) leaveBlocked s)

/-- PHASE_BACK_END (R173). -/
def execPhaseBackEnd (s : State) : Host.Outcome State Fault Refusal :=
  .next (quietEvent (s.rcu.state == .phaseBack && s.rcu.blockTimer == 0) phaseBackEnd s)

/-- The overload count reaches T_ovl on the present current (R176). -/
def State.ovlDue (s : State) : Bool := s.iRectUsable && s.rcu.ovl.raises s.rect.iOvl s.rect.tOvl s.iRect

/-- RECT_OVL (R176). -/
def execRectOvl (s : State) : Host.Outcome State Fault Refusal := .next (event s.ovlDue overloadFrame s)

/-- The overvoltage count reaches T_ovp on the present voltage (R179). -/
def State.ovpDue (s : State) : Bool :=
  s.busOut.quality != .invalid && s.rcu.ovp.raises s.rect.uOvp s.rect.tOvp s.uBus

/-- OVERVOLT_ROW (R179). -/
def execOvervoltRow (s : State) : Host.Outcome State Fault Refusal := .next (event s.ovpDue overvoltFrame s)

/-- CHOPPER_BLOCK_END (R178): the chopper's work in the last frame of a block. -/
def execChopperBlockEnd (s : State) : Host.Outcome State Fault Refusal :=
  .next (quietEvent (decide (99 ≤ s.rcu.chopper.blockCount)) chopperFrame s)

/-- The buffer in POST writes its last entry in one frame (R192). -/
def RecBuffer.lastDue (b : RecBuffer) : Bool := b.state == .post && decide (b.post ≤ 1) && b.decim == 0

/-- RECORD_HELD (R192). -/
def execRecordHeld (s : State) : Host.Outcome State Fault Refusal :=
  .next (quietEvent (s.eru.buffers[0].lastDue || s.eru.buffers[1].lastDue) recorderWrite s)

/-- The time since the reference instant reaches the period within one frame (R163). -/
def State.wrapDue (s : State) : Bool := decide (s.rcu.sync.period ≤ s.timer + 100 - s.rcu.sync.ref)

/-- PHASE_COUNTER_WRAP (R163). -/
def execPhaseCounterWrap (s : State) : Host.Outcome State Fault Refusal := .next (quietEvent s.wrapDue wrapCounter s)

end Sys2Proof.Machine
end

