-- ==== Sys2Proof/Machine/SettingsCommands.lean ====
section
/-! DEFINITION. The meanings of VERIFICATION_END and SCRUB. -/

namespace Sys2Proof.Machine

/-- The next frame is frame c+64 of a verification (R98). -/
def State.verifyDue (s : State) : Bool :=
  match s.su.verify with
  | some v => decide (v.left ≤ 1)
  | none => false

/-- A breaker whose fitted state has changed: its position is formed anew, and its test contactor released where it is
not OPEN (R119, R125, R132). -/
def refitBreaker (b : Fin 7) (s : State) : State :=
  if (s.breaker b).wasFitted == s.isFitted b then s
  else
    let s := noteFitted b (s.onBreaker b fun r => { r with position := s.positionNow b })
    match feederOf b with
    | some k => releaseUnlessOpen k s
    | none => s

/-- What the first frame of new settings gives at once, beside `takeSettings`: BUS_LOST by the new T_blind (R8), the
positions of breakers fitted anew or no longer (R132), intertrip-in formed from the new records, with IT (R66, R84,
R85), and a lost sync that blocks the RCU (R164, R166). -/
def firstFrame (s : State) : State :=
  blockingTest (forAll 6 intertripStep (blindCheck (forAll 7 refitBreaker s)))

/-- Work of the Settings Unit, with the first frame of new settings where it changes the settings in use (R99). -/
def withFirstFrame (work : State → State) (s : State) : State :=
  let t := work s
  if t.su.inUse = s.su.inUse then t else firstFrame t

/-- VERIFICATION_END (R98). The effects of a scrub that failed in the frame before come first (R101). -/
def execVerificationEnd (s : State) : Host.Outcome State Fault Refusal :=
  .next (event s.verifyDue (withFirstFrame fun s => verifyStep (afterScrub s)) s)

/-- The scrub timer would reach 10,000 (R101). -/
def State.scrubDue (s : State) : Bool := s.su.inUse.isSome && decide (9999 ≤ s.su.scrubTimer)

/-- SCRUB (R101), with the entry into fallback operation that a failure gives (R105). -/
def execScrub (s : State) : Host.Outcome State Fault Refusal :=
  .next (event s.scrubDue (withFirstFrame fun s => afterScrub (scrubStep false s)) s)

end Sys2Proof.Machine
end

