-- ==== Sys2Proof/Machine/TelegramCommands.lean ====
section
/-! DEFINITION. The meanings of the telegrams: LOAD and READ of each table, ACTIVATE, the COMMANDs, the QUERYs, SET TIME
and RESTART (R33, R34, R35), each with the fields of its payload. -/

namespace Sys2Proof.Machine

/-- LOAD of SLOT_MAP (R12, R13). -/
def execLoadSlotMap (g : Byte) (first count : Word) (ws : List Word) (s : State) : Host.Outcome State Fault Refusal :=
  .next (telegram (.load .slotMap g first count ws) s)

/-- LOAD of INDICATION (R19). -/
def execLoadIndication (g : Byte) (first count : Word) (ws : List Word) (s : State) : Host.Outcome State Fault Refusal :=
  .next (telegram (.load .indication g first count ws) s)

/-- LOAD of a group table (R91). -/
def execLoadGroupTable (t : GroupTable) (g : Byte) (first count : Word) (ws : List Word) (s : State) :
    Host.Outcome State Fault Refusal :=
  .next (telegram (.load (.group t) g first count ws) s)

/-- LOAD of RECORDER (R188). -/
def execLoadRecorder (g : Byte) (first count : Word) (ws : List Word) (s : State) : Host.Outcome State Fault Refusal :=
  .next (telegram (.load .recorder g first count ws) s)

/-- LOAD of COUNTERS (R196). -/
def execLoadCounters (g : Byte) (first count : Word) (ws : List Word) (s : State) : Host.Outcome State Fault Refusal :=
  .next (telegram (.load .counters g first count ws) s)

/-- READ of SLOT_MAP (R14). -/
def execReadSlotMap (g : Byte) (first count : Word) (s : State) : Host.Outcome State Fault Refusal :=
  .next (telegram (.read .slotMap g first count) s)

/-- READ of INDICATION (R19). -/
def execReadIndication (g : Byte) (first count : Word) (s : State) : Host.Outcome State Fault Refusal :=
  .next (telegram (.read .indication g first count) s)

/-- READ of a group table (R92). -/
def execReadGroupTable (t : GroupTable) (g : Byte) (first count : Word) (s : State) : Host.Outcome State Fault Refusal :=
  .next (telegram (.read (.group t) g first count) s)

/-- READ of RECORDER (R188). -/
def execReadRecorder (g : Byte) (first count : Word) (s : State) : Host.Outcome State Fault Refusal :=
  .next (telegram (.read .recorder g first count) s)

/-- READ of COUNTERS (R196). -/
def execReadCounters (g : Byte) (first count : Word) (s : State) : Host.Outcome State Fault Refusal :=
  .next (telegram (.read .counters g first count) s)

/-- ACTIVATE (R96). -/
def execActivate (g : Byte) (crc : Word) (s : State) : Host.Outcome State Fault Refusal :=
  .next (telegram (.activate g crc) s)

/-- OPEN (R129). -/
def execOpen (b : Byte) (s : State) : Host.Outcome State Fault Refusal := .next (telegram (.openBreaker b) s)

/-- CLOSE FEEDER (R152). -/
def execCloseFeeder (k : Byte) (s : State) : Host.Outcome State Fault Refusal := .next (telegram (.closeFeeder k) s)

/-- CLOSE AC (R131). -/
def execCloseAc (s : State) : Host.Outcome State Fault Refusal := .next (telegram .closeAc s)

/-- OPEN ALL (R130). -/
def execOpenAll (s : State) : Host.Outcome State Fault Refusal := .next (telegram .openAll s)

/-- CLEAR LATCH (R128). -/
def execClearLatch (b : Byte) (s : State) : Host.Outcome State Fault Refusal := .next (telegram (.clearLatch b) s)

/-- RESET LOCKOUT (R153). -/
def execResetLockout (k : Byte) (s : State) : Host.Outcome State Fault Refusal := .next (telegram (.resetLockout k) s)

/-- SETPOINT STEP (R174). -/
def execSetpointStep (change : Word) (s : State) : Host.Outcome State Fault Refusal :=
  .next (telegram (.setpointStep change) s)

/-- SET OUTPUT (R22). -/
def execSetOutput (w b v : Byte) (s : State) : Host.Outcome State Fault Refusal := .next (telegram (.setOutput w b v) s)

/-- FEEDER SERVICE (R63). -/
def execFeederService (k flag : Byte) (s : State) : Host.Outcome State Fault Refusal :=
  .next (telegram (.feederService k flag) s)

/-- TRIGGER RECORD (R191). -/
def execTriggerRecord (s : State) : Host.Outcome State Fault Refusal := .next (telegram .triggerRecord s)

/-- RELEASE RECORD (R193). -/
def execReleaseRecord (b : Byte) (s : State) : Host.Outcome State Fault Refusal := .next (telegram (.releaseRecord b) s)

/-- COUNTER FREEZE (R203). -/
def execCounterFreeze (s : State) : Host.Outcome State Fault Refusal := .next (telegram .counterFreeze s)

/-- COUNTER UNFREEZE (R203). -/
def execCounterUnfreeze (s : State) : Host.Outcome State Fault Refusal := .next (telegram .counterUnfreeze s)

/-- COUNTER RESET (R204). -/
def execCounterReset (mask : Word) (s : State) : Host.Outcome State Fault Refusal :=
  .next (telegram (.counterReset mask) s)

/-- COUNTER PRELOAD (R204). -/
def execCounterPreload (n : Byte) (value : BitVec 48) (s : State) : Host.Outcome State Fault Refusal :=
  .next (telegram (.counterPreload n value) s)

/-- QUERY STATUS (R23, R35, R44). -/
def execQueryStatus (s : State) : Host.Outcome State Fault Refusal := .next (telegram .queryStatus s)

/-- QUERY MEASUREMENTS (R60). -/
def execQueryMeasurements (s : State) : Host.Outcome State Fault Refusal := .next (telegram .queryMeasurements s)

/-- QUERY FEEDER (R88, R158). -/
def execQueryFeeder (k : Byte) (s : State) : Host.Outcome State Fault Refusal := .next (telegram (.queryFeeder k) s)

/-- QUERY BREAKER (R134). -/
def execQueryBreaker (b : Byte) (s : State) : Host.Outcome State Fault Refusal := .next (telegram (.queryBreaker b) s)

/-- QUERY RECTIFIER (R182). -/
def execQueryRectifier (s : State) : Host.Outcome State Fault Refusal := .next (telegram .queryRectifier s)

/-- QUERY COUNTERS (R205). -/
def execQueryCounters (s : State) : Host.Outcome State Fault Refusal := .next (telegram .queryCounters s)

/-- QUERY RECORD INFO (R195). -/
def execQueryRecordInfo (s : State) : Host.Outcome State Fault Refusal := .next (telegram .queryRecordInfo s)

/-- QUERY RECORD (R194). -/
def execQueryRecord (b : Byte) (first count : Word) (s : State) : Host.Outcome State Fault Refusal :=
  .next (telegram (.queryRecord b first count) s)

/-- SET TIME (R37). -/
def execSetTime (day : Word) (ms : BitVec 32) (s : State) : Host.Outcome State Fault Refusal :=
  .next (telegram (.setTime day ms) s)

/-- RESTART (R40). -/
def execRestart (s : State) : Host.Outcome State Fault Refusal := .next (telegram .restart s)

end Sys2Proof.Machine
end

