-- ==== Sys2Proof/Machine/Dispatch.lean ====
section
/-! DEFINITION. Each command is given to its meaning. -/

namespace Sys2Proof.Machine

/-- The effect of a command on everything but the queue of waiting commands. -/
def exec (i : Instr) (s : State) : Host.Outcome State Fault Refusal :=
  match i with
  | .powerOn straps => Sys2Proof.Machine.execPowerOn straps s
  | .frame inp => Sys2Proof.Machine.execFrame inp s
  | .lockingEntry => Sys2Proof.Machine.execLockingEntry s
  | .busLost => Sys2Proof.Machine.execBusLost s
  | .blindTimeThreshold => Sys2Proof.Machine.execBlindTimeThreshold s
  | .slotConflict slot tag => Sys2Proof.Machine.execSlotConflict slot tag s
  | .indicationStale word => Sys2Proof.Machine.execIndicationStale word s
  | .abortEnd => Sys2Proof.Machine.execAbortEnd s
  | .takeByte data sot => Sys2Proof.Machine.execTakeByte data sot s
  | .gapTimeout => Sys2Proof.Machine.execGapTimeout s
  | .upByteTaken => Sys2Proof.Machine.execUpByteTaken s
  | .upTelegramStart => Sys2Proof.Machine.execUpTelegramStart s
  | .loadSlotMap group first count entries => Sys2Proof.Machine.execLoadSlotMap group first count entries s
  | .loadIndication group first count entries => Sys2Proof.Machine.execLoadIndication group first count entries s
  | .loadGroupTable table group first count entries => Sys2Proof.Machine.execLoadGroupTable table group first count entries s
  | .loadRecorder group first count entries => Sys2Proof.Machine.execLoadRecorder group first count entries s
  | .loadCounters group first count entries => Sys2Proof.Machine.execLoadCounters group first count entries s
  | .readSlotMap group first count => Sys2Proof.Machine.execReadSlotMap group first count s
  | .readIndication group first count => Sys2Proof.Machine.execReadIndication group first count s
  | .readGroupTable table group first count => Sys2Proof.Machine.execReadGroupTable table group first count s
  | .readRecorder group first count => Sys2Proof.Machine.execReadRecorder group first count s
  | .readCounters group first count => Sys2Proof.Machine.execReadCounters group first count s
  | .activate group crc => Sys2Proof.Machine.execActivate group crc s
  | .verificationEnd => Sys2Proof.Machine.execVerificationEnd s
  | .scrub => Sys2Proof.Machine.execScrub s
  | .openBreaker breaker => Sys2Proof.Machine.execOpen breaker s
  | .closeFeeder feeder => Sys2Proof.Machine.execCloseFeeder feeder s
  | .closeAc => Sys2Proof.Machine.execCloseAc s
  | .openAll => Sys2Proof.Machine.execOpenAll s
  | .clearLatch breaker => Sys2Proof.Machine.execClearLatch breaker s
  | .resetLockout feeder => Sys2Proof.Machine.execResetLockout feeder s
  | .setpointStep change => Sys2Proof.Machine.execSetpointStep change s
  | .setOutput word bit value => Sys2Proof.Machine.execSetOutput word bit value s
  | .feederService feeder flag => Sys2Proof.Machine.execFeederService feeder flag s
  | .triggerRecord => Sys2Proof.Machine.execTriggerRecord s
  | .releaseRecord buffer => Sys2Proof.Machine.execReleaseRecord buffer s
  | .counterFreeze => Sys2Proof.Machine.execCounterFreeze s
  | .counterUnfreeze => Sys2Proof.Machine.execCounterUnfreeze s
  | .counterReset mask => Sys2Proof.Machine.execCounterReset mask s
  | .counterPreload counter value => Sys2Proof.Machine.execCounterPreload counter value s
  | .queryStatus => Sys2Proof.Machine.execQueryStatus s
  | .queryMeasurements => Sys2Proof.Machine.execQueryMeasurements s
  | .queryFeeder feeder => Sys2Proof.Machine.execQueryFeeder feeder s
  | .queryBreaker breaker => Sys2Proof.Machine.execQueryBreaker breaker s
  | .queryRectifier => Sys2Proof.Machine.execQueryRectifier s
  | .queryCounters => Sys2Proof.Machine.execQueryCounters s
  | .queryRecordInfo => Sys2Proof.Machine.execQueryRecordInfo s
  | .queryRecord buffer first count => Sys2Proof.Machine.execQueryRecord buffer first count s
  | .setTime day ms => Sys2Proof.Machine.execSetTime day ms s
  | .restart => Sys2Proof.Machine.execRestart s
  | .holdExpired channel => Sys2Proof.Machine.execHoldExpired channel s
  | .fillComplete channel raw => Sys2Proof.Machine.execFillComplete channel raw s
  | .blankEnd channel => Sys2Proof.Machine.execBlankEnd channel s
  | .ocTrip feeder => Sys2Proof.Machine.execOcTrip feeder s
  | .rrTrip feeder => Sys2Proof.Machine.execRrTrip feeder s
  | .riseEnded feeder => Sys2Proof.Machine.execRiseEnded feeder s
  | .rrReset feeder => Sys2Proof.Machine.execRrReset feeder s
  | .closeBlockEnd feeder => Sys2Proof.Machine.execCloseBlockEnd feeder s
  | .thermalBlockEnd => Sys2Proof.Machine.execThermalBlockEnd s
  | .uvPickup feeder => Sys2Proof.Machine.execUvPickup feeder s
  | .intertripOutRelease feeder => Sys2Proof.Machine.execIntertripOutRelease feeder s
  | .peakReached channel => Sys2Proof.Machine.execPeakReached channel s
  | .peakTimeout channel => Sys2Proof.Machine.execPeakTimeout channel s
  | .coilLost channel => Sys2Proof.Machine.execCoilLost channel s
  | .holdTimeout channel => Sys2Proof.Machine.execHoldTimeout channel s
  | .quenchEnd channel => Sys2Proof.Machine.execQuenchEnd channel s
  | .checkPulseEnd channel => Sys2Proof.Machine.execCheckPulseEnd channel s
  | .checkEnd channel => Sys2Proof.Machine.execCheckEnd channel s
  | .coolOffEnd channel => Sys2Proof.Machine.execCoolOffEnd channel s
  | .breakerFailureCheck breaker => Sys2Proof.Machine.execBreakerFailureCheck breaker s
  | .deadTimeEnd feeder => Sys2Proof.Machine.execDeadTimeEnd feeder s
  | .precheckPass feeder => Sys2Proof.Machine.execPrecheckPass feeder s
  | .precheckTimeout feeder => Sys2Proof.Machine.execPrecheckTimeout feeder s
  | .testRequest feeder => Sys2Proof.Machine.execTestRequest feeder s
  | .settleEnd feeder => Sys2Proof.Machine.execSettleEnd feeder s
  | .lineTestComplete feeder => Sys2Proof.Machine.execLineTestComplete feeder s
  | .closeRequest feeder => Sys2Proof.Machine.execCloseRequest feeder s
  | .reclaimEnd feeder => Sys2Proof.Machine.execReclaimEnd feeder s
  | .syncAcquired interval => Sys2Proof.Machine.execSyncAcquired interval s
  | .crossingMissed => Sys2Proof.Machine.execCrossingMissed s
  | .firingInstant => Sys2Proof.Machine.execFiringInstant s
  | .gatePulseEnd thyristor => Sys2Proof.Machine.execGatePulseEnd thyristor s
  | .rectRun => Sys2Proof.Machine.execRectRun s
  | .phaseBackEnd => Sys2Proof.Machine.execPhaseBackEnd s
  | .rectOvl => Sys2Proof.Machine.execRectOvl s
  | .overvoltRow => Sys2Proof.Machine.execOvervoltRow s
  | .chopperBlockEnd => Sys2Proof.Machine.execChopperBlockEnd s
  | .recordHeld => Sys2Proof.Machine.execRecordHeld s
  | .floorSample channel high => Sys2Proof.Machine.execFloorSample channel high s
  | .phaseCounterWrap => Sys2Proof.Machine.execPhaseCounterWrap s

end Sys2Proof.Machine
end

