-- ==== Sys2Proof/WellFormed.lean ====
section
/-! DEFINITION. Which commands can reach the device: the operands that its pins and a telegram's payload can carry. -/

namespace Sys2Proof

/-- Words per entry of a group table (R89 and the field tables). -/
def GroupTable.entryWidth : GroupTable → Nat
  | .channels => 6
  | .feeders => 24
  | .matrix => 6
  | .reclose => 13
  | .drive => 5
  | .rectifier => 33
  | .firingLaw => 1
  | .station => 18

/-- The longest payload of a telegram in bytes (R29). -/
def payloadMax : Nat := 1024

/-- The payload of a LOAD: six bytes of head and `count` entries of `width` words (R43), at most 1024 bytes (R29). -/
def loadFits (width : Nat) (count : Word) (entries : List Word) : Bool :=
  entries.length == count.toNat * width && decide (6 + 2 * entries.length ≤ payloadMax)

/-- One frame is 100 µs (00_scope.md, Time). -/
def FrameInput.wf (inp : FrameInput) : Bool := inp.micros.length == 100

/-- The intervals between crossings that R163 accepts: 15,385 to 22,222 µs. -/
def intervalAccepted (x : Nat) : Bool := decide (15385 ≤ x ∧ x ≤ 22222)

/-- A command that can reach the device. -/
def Instr.wf : Instr → Bool
  | .frame inp => inp.wf
  | .loadSlotMap _ _ count entries => loadFits 3 count entries
  | .loadIndication _ _ count entries => loadFits 1 count entries
  | .loadGroupTable table _ _ count entries => loadFits table.entryWidth count entries
  | .loadRecorder _ _ count entries => loadFits 10 count entries
  | .loadCounters _ _ count entries => loadFits 9 count entries
  | .syncAcquired interval => intervalAccepted interval
  | .powerOn _ | .lockingEntry | .busLost | .blindTimeThreshold | .slotConflict .. | .indicationStale _ | .abortEnd
  | .takeByte .. | .gapTimeout | .upByteTaken | .upTelegramStart | .readSlotMap .. | .readIndication ..
  | .readGroupTable .. | .readRecorder .. | .readCounters .. | .activate .. | .verificationEnd | .scrub
  | .openBreaker _ | .closeFeeder _ | .closeAc | .openAll | .clearLatch _ | .resetLockout _ | .setpointStep _
  | .setOutput .. | .feederService .. | .triggerRecord | .releaseRecord _ | .counterFreeze | .counterUnfreeze
  | .counterReset _ | .counterPreload .. | .queryStatus | .queryMeasurements | .queryFeeder _ | .queryBreaker _
  | .queryRectifier | .queryCounters | .queryRecordInfo | .queryRecord .. | .setTime .. | .restart | .holdExpired _
  | .fillComplete .. | .blankEnd _ | .ocTrip _ | .rrTrip _ | .riseEnded _ | .rrReset _ | .closeBlockEnd _
  | .thermalBlockEnd | .uvPickup _ | .intertripOutRelease _ | .peakReached _ | .peakTimeout _ | .coilLost _
  | .holdTimeout _ | .quenchEnd _ | .checkPulseEnd _ | .checkEnd _ | .coolOffEnd _ | .breakerFailureCheck _
  | .deadTimeEnd _ | .precheckPass _ | .precheckTimeout _ | .testRequest _ | .settleEnd _ | .lineTestComplete _
  | .closeRequest _ | .reclaimEnd _ | .crossingMissed | .firingInstant | .gatePulseEnd _ | .rectRun | .phaseBackEnd
  | .rectOvl | .overvoltRow | .chopperBlockEnd | .recordHeld | .floorSample .. | .phaseCounterWrap => true

end Sys2Proof
end

