-- ==== Sys2Proof/Safety.lean ====
section
/-! DEFINITION. The terms in which claims about the device speak: a state between commands, what the event queue gains,
what a trip is, and the ranges that every step keeps. -/

namespace Sys2Proof.Machine

/-! ## Between commands -/

/-- A state between commands: no signal on a wire between the blocks, and no START record still to be appended. -/
structure State.Quiet (s : State) : Prop where
  wires : s.wires = Wires.none
  start : s.eru.startDue = []

/-- No operation of a breaker is left to end (R120, R124, R126), and the movements seen are noted (R120). -/
structure State.Settled (s : State) : Prop where
  target : ∀ b, (s.breaker b).op ≠ .none → (s.breaker b).op.target ≠ some (s.breaker b).position
  failed : ∀ b, (s.breaker b).failedEnd (s.drive (tripChannel b)) = false
  moved : ∀ b, (s.breaker b).op ≠ .none → (s.breaker b).position ≠ .unknown → (s.breaker b).moved = true

/-- The state that every frame leaves and every command but POWER_ON keeps: quiet and settled. -/
structure State.AtRest (s : State) : Prop extends State.Quiet s, State.Settled s

/-- The queue has room for what one command can hand it, and every counter is in its range (R184, R197). -/
structure State.Roomy (s : State) : Prop where
  queue : s.eru.queue.length ≤ 64
  counters : ∀ n : Fin 16, s.cb.counters[n].value < 2 ^ 40

/-- Records as they enter the queue: consecutive sequence numbers from `n` on, all with the same time of day (R183,
R184). -/
def stamped (n : Nat) (now : Clock) : List EventMsg → List EventRecord
  | [] => []
  | m :: ms => ⟨n, now, m, false⟩ :: stamped ((n + 1) % 65536) now ms

/-- The sequence number after a number of records (R184). -/
def numberAfter : Nat → Nat → Nat
  | n, 0 => n
  | n, k + 1 => numberAfter ((n + 1) % 65536) k

/-- `t` is `s` with these events added at the end of the event queue in this order, and with whatever the Counter Bank
makes of counting them (R198): its counters, its bank state (R202), and its own COUNTER_OVERFLOW records among them.
Nothing else differs but the model's count of free choices. -/
def Logged (ms : List EventMsg) (s t : State) : Prop :=
  ∃ all : List EventMsg, all.filter (fun m => m.code != .counterOverflow) = ms ∧
    t = { ((s.onEru fun e =>
      { e with
        queue := e.queue ++ stamped e.next s.scu.clock all
        next := numberAfter e.next all.length }).onCb fun c =>
      { c with counters := t.cb.counters, frozen := t.cb.frozen }) with free := t.free }

/-- As `Logged`, where the events are those of several blocks and stand in the queue in some order (R184). -/
def LoggedEach (ms : List EventMsg) (s t : State) : Prop := ∃ ms' : List EventMsg, ms'.Perm ms ∧ Logged ms' s t

/-! ## What a frame shows -/

/-- The next frame answers no telegram and takes no new settings. -/
structure State.Plain (s : State) : Prop where
  job : s.scu.job = none
  verify : s.su.verify = none
  scrub : s.su.scrubFailed = false

/-- The device after the cool-offs and the microseconds of a frame in the BDU (R114 to R118), before the positions, the
rows and the sequences of the frame act on the drive channels. -/
def State.afterMicros (inp : FrameInput) (s : State) : State := drivesRun inp.micros (bduCounts s)

/-- The source of a feeder's row has entered its tripped, picked-up or present state between two states, so that the
row is raised (R66, R68, R71, R77, R80, R126). -/
def rowSeen (s t : State) (k : Fin 6) : FeederRow → Bool
  | .oc => (t.feeder k).ocTripped && !(s.feeder k).ocTripped
  | .rr => (t.feeder k).rr == .tripped && (s.feeder k).rr != .tripped
  | .th => (t.feeder k).thTripped && !(s.feeder k).thTripped
  | .uv => (t.feeder k).uvPicked && !(s.feeder k).uvPicked && (s.feederRec k).uvTrip
  | .bf => (t.breaker (breakerOf k)).latches.bf && !(s.breaker (breakerOf k)).latches.bf
  | .it => (t.feeder k).intertrip && !(s.feeder k).intertrip

/-- A row of the feeder with start reclose set has been raised between two states (R107, R139). -/
def startSeen (s t : State) (k : Fin 6) : Bool :=
  [FeederRow.oc, .rr, .th, .uv, .bf, .it].any fun e => rowSeen s t k e && (s.matrixRow (feederRow k e)).reclose

/-- A line test of the feeder is interrupted in the frame from `s` to `t` (R146): by intertrip-in or the bus voltage, or
by a raised OC, RR, TH or BF row. -/
def testCut (s t : State) (k : Fin 6) : Bool :=
  t.testDisturbed k || rowSeen s t k .oc || rowSeen s t k .rr || rowSeen s t k .th || rowSeen s t k .bf

/-- The contactor's energisation ends in the frame from `s` to `t` without the RCL (R125, R147): the channel leaves PEAK
and HOLD in the frame's microseconds, or the breaker is not OPEN. -/
def testEnds (inp : FrameInput) (s t : State) (k : Fin 6) : Bool :=
  (s.drive (testChannel k)).energised &&
    !(((s.afterMicros inp).drive (testChannel k)).energised && t.breakerOpen k)

/-! ## Telegrams -/

/-- The command that gives the device a telegram. -/
def Request.instr : Request → Instr
  | .load .slotMap g first count ws => .loadSlotMap g first count ws
  | .load .indication g first count ws => .loadIndication g first count ws
  | .load (.group t) g first count ws => .loadGroupTable t g first count ws
  | .load .recorder g first count ws => .loadRecorder g first count ws
  | .load .counters g first count ws => .loadCounters g first count ws
  | .read .slotMap g first count => .readSlotMap g first count
  | .read .indication g first count => .readIndication g first count
  | .read (.group t) g first count => .readGroupTable t g first count
  | .read .recorder g first count => .readRecorder g first count
  | .read .counters g first count => .readCounters g first count
  | .activate g c => .activate g c
  | .openBreaker b => .openBreaker b
  | .closeFeeder k => .closeFeeder k
  | .closeAc => .closeAc
  | .openAll => .openAll
  | .clearLatch b => .clearLatch b
  | .resetLockout k => .resetLockout k
  | .setpointStep c => .setpointStep c
  | .setOutput w b v => .setOutput w b v
  | .feederService k f => .feederService k f
  | .triggerRecord => .triggerRecord
  | .releaseRecord b => .releaseRecord b
  | .counterFreeze => .counterFreeze
  | .counterUnfreeze => .counterUnfreeze
  | .counterReset m => .counterReset m
  | .counterPreload n v => .counterPreload n v
  | .queryStatus => .queryStatus
  | .queryMeasurements => .queryMeasurements
  | .queryFeeder k => .queryFeeder k
  | .queryBreaker b => .queryBreaker b
  | .queryRectifier => .queryRectifier
  | .queryCounters => .queryCounters
  | .queryRecordInfo => .queryRecordInfo
  | .queryRecord b first count => .queryRecord b first count
  | .setTime day ms => .setTime day ms
  | .restart => .restart

/-- The SCU after a telegram that is refused or answered at once: assembly EMPTY, the REPLY pending (R29, R31). -/
def Scu.answered (u : Scu) (echo : Byte) (r : Result) (data : List Byte) : Scu :=
  { u with assembly := .empty, buffer := [], work := .replyPending, job := none, reply := some ⟨echo, r, data, false⟩ }

/-- The state with a telegram answered by a result without data and nothing else changed. -/
def State.answeredWith (s : State) (q : Request) (r : Result) : State :=
  s.onScu fun u => u.answered q.typeByte r []

/-- The device takes a telegram: the work state is FREE (R32), and the SCU's own checks pass (R30). -/
def State.takes (s : State) (q : Request) : Prop := s.scu.work = .free ∧ scuCheck q = none

/-! ## Trips -/

/-- The breaker is TRIPPING and its trip channel is energised, from the beginning (R115, R121). -/
structure State.TripBegun (s : State) (b : Fin 7) : Prop where
  op : (s.breaker b).op = .tripping
  count : (s.breaker b).count = 0
  channel : (s.drive (tripChannel b)).state = .peak
  timer : (s.drive (tripChannel b)).timer = 0

/-- A trip request would start a trip: the breaker is fitted, not OPEN, and has no operation under way (R121). -/
def State.tripReady (s : State) (b : Fin 7) : Prop :=
  s.isFitted b = true ∧ (s.breaker b).op = .none ∧ (s.breaker b).position ≠ .opn

/-- What a row raised in the frame does, and nothing more (R107 to R110, R121, R122, R139, R172, R191).
`taken`, `begun`: every breaker of the row's trip mask takes the trip (the mask of AC_BF is ignored), and a breaker
ready for it begins to trip, its close channel released. `logged`: the queue holds the row's TRIP event with the
value. `intertrip`, `phaseBack`, `extended`, `record`, `start`: the row's other actions. The rest is the frame:
`commands` and `holds` of the feeders not named, `noPhaseBack` the rectifier where the row asks for no phase-back. -/
structure RowTaken (r : Fin 40) (value : Int) (s t : State) : Prop where
  taken : ∀ b : Fin 7, (appliedTrip s r).getLsbD b.val = true → (t.breaker b).tripTaken = true
  begun : ∀ b : Fin 7, (appliedTrip s r).getLsbD b.val = true → s.tripReady b →
    t.TripBegun b ∧ t.drive (closeChannel b) = (s.drive (closeChannel b)).release
  logged : ∃ x ∈ t.eru.queue, x.msg = tripEvent s ⟨r, value⟩ ∧ x.time = s.scu.clock
  queue : ∃ more, t.eru.queue = s.eru.queue ++ more
  intertrip : ∀ k : Fin 6, (s.matrixRow r).intertrip.getLsbD k.val = true → (s.feederRec k).outPresent = true →
    (∀ w : Fin 16, w.val = (s.feederRec k).outWord → (s.feederRec k).outBit < 16 →
      t.sbi.commands[w].getLsbD (s.feederRec k).outBit = true) ∧ t.su.holds[k] = ⟨true, 0⟩
  commands : ∀ (w : Fin 16) (j : Nat), (∀ k : Fin 6, (s.matrixRow r).intertrip.getLsbD k.val = true →
      (s.feederRec k).outPresent = true → ¬ (w.val = (s.feederRec k).outWord ∧ j = (s.feederRec k).outBit)) →
    t.sbi.commands[w].getLsbD j = s.sbi.commands[w].getLsbD j
  holds : ∀ k : Fin 6, (s.matrixRow r).intertrip.getLsbD k.val = false ∨ (s.feederRec k).outPresent = false →
    t.su.holds[k] = s.su.holds[k]
  phaseBack : (s.matrixRow r).phaseBack = true → (s.rcu.state = .softStart ∨ s.rcu.state = .regulating) →
    t.rcu.state = .phaseBack ∧ t.rcu.blockTimer = s.rect.tBlock ∧ t.rcu.integ = 0 ∧ t.rcu.alpha = s.rect.aBlock
  extended : (s.matrixRow r).phaseBack = true → s.rcu.state = .phaseBack →
    t.rcu = { s.rcu with blockTimer := s.rect.tBlock }
  noPhaseBack : (s.matrixRow r).phaseBack = false ∨ s.rcu.state = .blocked ∨ s.rcu.state = .fixed → t.rcu = s.rcu
  record : t.eru.buffers =
    if (s.matrixRow r).record = false then s.eru.buffers
    else if s.eru.buffers[0].state = .capture then s.eru.buffers.set 0 (s.eru.buffers[0].trigger .matrix s.scu.clock)
    else if s.eru.buffers[1].state = .capture then s.eru.buffers.set 1 (s.eru.buffers[1].trigger .matrix s.scu.clock)
    else s.eru.buffers
  start : ∀ k : Fin 6, rowFeeder r = some k → (s.matrixRow r).reclose = true →
    ((s.seq k).state = .idle ∨ (s.seq k).state = .reclaim) →
    t.seq k = if (s.seq k).attempts < (s.recloseRec k).attempts then
        { s.seq k with state := .deadTime, phase := .none, timer := 0, attempts := (s.seq k).attempts + 1 }
      else { s.seq k with state := .lockout, phase := .none, timer := 0, reason := .attemptsUsed }
  straps : t.straps = s.straps
  times : t.timer = s.timer ∧ t.stamp = s.stamp ∧ t.prevStamp = s.prevStamp ∧ t.fresh = s.fresh
  bus : t.sbi = { s.sbi with commands := t.sbi.commands }
  service : t.scu = s.scu
  measurements : t.mu = s.mu
  protection : t.fpu = s.fpu
  settings : t.su = { s.su with holds := t.su.holds }
  rectifier : t.rcu.sync = s.rcu.sync ∧ t.rcu.uset = s.rcu.uset ∧ t.rcu.ovl = s.rcu.ovl ∧ t.rcu.ovp = s.rcu.ovp ∧
    t.rcu.chopper = s.rcu.chopper
  recorder : t.eru.programme = s.eru.programme ∧ t.eru.heldCount = s.eru.heldCount ∧ t.eru.stopped = s.eru.stopped
  counters : t.cb.programme = s.cb.programme
  duty : ∀ b : Fin 7, (appliedTrip s r).getLsbD b.val = false → t.cb.duty[b] = s.cb.duty[b]
  pending : t.pending = s.pending
  breakers : ∀ b : Fin 7, (appliedTrip s r).getLsbD b.val = false → t.breaker b = s.breaker b ∧
    t.drive (tripChannel b) = s.drive (tripChannel b) ∧ t.drive (closeChannel b) = s.drive (closeChannel b)
  contactors : ∀ k : Fin 6, t.drive (testChannel k) = s.drive (testChannel k) ∨
    t.drive (testChannel k) = (s.drive (testChannel k)).release
  sequences : ∀ k : Fin 6, (appliedTrip s r).getLsbD k.val = false → rowFeeder r ≠ some k → t.seq k = s.seq k

/-! ## Ranges and invariants -/

/-- A time of day (R37). -/
def Clock.inRange (c : Clock) : Prop := c.day ≤ 65535 ∧ c.ms ≤ 86399999 ∧ c.frame ≤ 9

/-- The ranges that the spec gives the counts of the device: the clock (R37), the event queue (R184), the counters
(R197), the indication counts (R17, R18), the blind time (R7); the telegram in hand
has passed the checks of the SCU (R30), and no signal stands on a wire between commands. -/
structure State.InRange (s : State) : Prop where
  clock : s.scu.clock.inRange
  load : ∀ c, s.scu.clockLoad = some c → c.inRange
  job : ∀ q, s.scu.job = some q → scuCheck q = none
  queue : s.eru.queue.length ≤ 128
  number : s.eru.next < 65536
  counters : ∀ n : Fin 16, s.cb.counters[n].value < 2 ^ 40
  candidates : ∀ i : Fin 16, s.sbi.words[i].candCount ≤ 2
  gaps : ∀ i : Fin 16, s.sbi.words[i].gap ≤ 10
  blind : s.sbi.blind ≤ 2147483647
  wires : s.wires = Wires.none

/-- Firing and the rectifier's state agree: a thyristor is pending exactly when the RCU is not BLOCKED (R165, R166),
and the chopper's gate is OFF while the chopper is inhibited (R177, R178). -/
structure State.FiringAgrees (s : State) : Prop where
  pending : s.rcu.state = .blocked ↔ s.rcu.pendingThy = none
  gate : s.rcu.chopper.inhibited = true → s.rcu.chopper.gate = false

/-- The trip and the close channel of a breaker are never both energised (R122; log 39). -/
def State.CoilsApart (s : State) : Prop :=
  ∀ b : Fin 7, (s.drive (tripChannel b)).energised = false ∨ (s.drive (closeChannel b)).energised = false

/-- The group states agree with the settings in use: a group is ACTIVE exactly when its copy is in use (R99), and the
group of a verification under way is VERIFYING (R96). -/
structure State.GroupsAgree (s : State) : Prop where
  active : ∀ g, (s.su.groupRec g).state = .active ↔ ∃ u, s.su.inUse = some u ∧ u.group = g
  verifying : ∀ v, s.su.verify = some v → (s.su.groupRec v.group).state = .verifying

end Sys2Proof.Machine
end

