-- ==== Sys2Proof/Certificates/Slice0/Obligations.lean ====
section
/-! DEFINITION. The statements for the provers. -/

open Sys2Proof Sys2Proof.Machine

/-! ## The queue, power-on, every command -/

/-- One step takes the command at the front of the queue and has its effect with the queue's rest. -/
def Obligations.StepRunsTheFrontCommand : Prop :=
  ∀ (c : Instr) (rest : List Instr) (s : State), s.pending = c :: rest → step s = exec c { s with pending := rest }

/-- Every command is answered by a next state in every state, and leaves the queue of waiting commands alone; the
straps change at POWER_ON alone (R3, R102). -/
def Obligations.EveryCommandCompletes : Prop :=
  ∀ (c : Instr) (s : State), ∃ t, exec c s = .next t ∧ t.pending = s.pending ∧
    ((∀ p, c ≠ .powerOn p) → t.straps = s.straps)

/-- POWER_ON, whatever the state before: the straps as read, the queue of waiting commands as it was, and every
register of the ten blocks at its power-on value: SBI (R3, R4, R11, R16, R18, R19, R20, R24), SCU (R37, R41), MU
(R49), FPU (R86), SU (R105, R111), BDU (R114, R119), RCL (R137), RCU (R163, R180), ERU (R187, R188, R189), CB (R197).
The values of the model's own fields, and of U_ref, V_d and the firing point, are the model's choice (log 14), and so
are the timer and the stamps, which read 0 (log 8). -/
def Obligations.PowerOnGivesEachBlockItsReset : Prop :=
  ∀ (p : Straps) (s : State), ∃ t, exec (.powerOn p) s = .next t ∧ t.straps = p ∧ t.pending = s.pending ∧
    t.timer = 0 ∧ t.stamp = 0 ∧ t.prevStamp = 0 ∧ t.fresh = true ∧ t.free = 0 ∧ t.wires = Wires.none ∧
    t.sbi =
      { sync := if p.role = .master then .run else .search
        searchCount := 0, missing := 0, blindFlag := false, blind := 0, lostRaised := false, position := 0
        heldTimeSet := false, heldFallback := false, map := Vector.ofFn fun i => defaultSlot p i.val
        checks := Vector.replicate 48 ⟨0, false⟩, words := Vector.replicate 16 ⟨0, 0, 0, 0, false, 0, ⟨0, 0, 0⟩⟩
        commands := Vector.replicate 16 0, sent := Vector.replicate 48 none, sentSync := none } ∧
    t.scu =
      { wt := false, pair := none, abortRun := 0, assembly := .empty, buffer := [], gap := 0, wv := false
        lastAck := false, lastWt := none, level := true, abortCount := 0, up := none, work := .free, job := none
        reply := none, clock := ⟨0, 0, 0⟩, clockLoad := none, timeSet := false } ∧
    t.mu = Vector.replicate 32
      { lastGood := 0, hold := 4, line := Vector.replicate 8 ⟨0, .invalid⟩, fill := 1, blank := 0
        out := ⟨0, .invalid⟩, prevOut := ⟨0, .invalid⟩ } ∧
    t.fpu.thermalCount = 0 ∧
    t.fpu.feeders = Vector.replicate 6
      { serviceOut := false, ocCount := 0, ocTripped := false, rr := .idle, i0 := 0, rise := 0, endCount := 0
        resetCount := 0, closeBlock := 0, history := Vector.replicate 5 ⟨0, .invalid⟩, theta := 0, sum := 0
        thTripped := false, thAlarm := false, permit := true, uvTimer := 0, uvPicked := false, intertrip := false } ∧
    t.su =
      { a := ⟨.empty, 0, Vector.replicate 870 0⟩, b := ⟨.empty, 0, Vector.replicate 870 0⟩, inUse := none
        reason := .powerOn, scrubTimer := 0, scrubFailed := false, verify := none
        holds := Vector.replicate 6 ⟨false, 0⟩ } ∧
    t.bdu.drives = Vector.replicate 20
      { state := .off, tPeak := 0, dHold := 0, tHold := 0, tCool := 0, timer := 0, ramp := 0, floorLow := 0, cool := 0
        pulseSeen := false } ∧
    (∀ b : Fin 7, t.breaker b =
      { position := .unknown, op := .none, count := 0, tbf := 20, lastTime := 0, latches := ⟨false, false, false, false⟩
        tripTaken := false, moved := false, wasFitted := decide (b.val < feederCount p ∨ b = 6) }) ∧
    t.rcl = Vector.replicate 6
      { state := .idle, phase := .none, attempts := 0, timer := 0, precheck := 0, sumU := 0, sumI := 0, samples := 0
        lastR := 0, reason := .none, wait := .none, live := 0 } ∧
    t.rcu =
      { sync :=
          { valid := false, ref := 0, period := 20000, intervals := #v[20000, 20000, 20000, 20000], acq := 0
            missed := 0, seqFault := 0, lastCross := none }
        state := .blocked, alpha := 0, calcAlpha := 0, integ := 0, uset := 0, uref := 0, vd := 0, blockTimer := 0
        cause := 0, pendingThy := none, point := 0, pulses := Vector.replicate 12 0, ovl := ⟨0, false, false⟩
        ovp := ⟨0, false, false⟩, chopper := ⟨false, 0, false, 0⟩ } ∧
    t.eru.queue = [] ∧ t.eru.next = 0 ∧ t.eru.overflow = false ∧ t.eru.discarded = false ∧
    t.eru.startDue = [⟨.device, 0, .start, 1, some 0⟩] ∧ t.eru.stopped = false ∧ t.eru.heldCount = 0 ∧
    t.eru.programme = #v[13, 1, 3, 5, 7, 9, 11, 14, 1, 25] ∧
    (∀ i : Fin 2, t.eru.buffers[i] =
      { state := if i = 0 then .capture else .free
        programme := if i = 0 then #v[13, 1, 3, 5, 7, 9, 11, 14, 1, 25] else Vector.replicate 10 0
        ring := Vector.replicate 2048 ⟨Vector.replicate 8 0, 0⟩, write := 0, written := 0, decim := 0, pre := 0
        post := 0, source := .none, time := ⟨0, 0, 0⟩, number := 0 }) ∧
    t.cb =
      { programme := Vector.replicate 144 0, counters := Vector.replicate 16 ⟨0, 0, false, false, 0, false⟩
        frozen := false, duty := Vector.replicate 7 0 }

/-! ## The station bus and the frame -/

/-- LOCKING_ENTRY: the third correctly spaced frame sync puts a follower in LOCKING (R4), and nothing else changes.
BUS_LOST: the tenth missing frame sync (R6, R7): through LOST to SEARCH with the blind flag set and the blind time
1, and the event; the missing count stays at 10 (log 12) and the position stands still (log 13). Nothing else changes.
BLIND_TIME_THRESHOLD (R8): when the blind time `n` of the frame (that of now, where it has already reached the
threshold) is T_blind × 10 or more, the BUS_LOST row is raised once, with the blind time (its trips release the close
channels, log 39). SLOT_CONFLICT: the third mismatch in a row of a checked slot sets the slot's flag and gives the
event with the slot and the tag received (R15, R16). Nothing else changes. INDICATION_STALE: the tenth frame without a
usable slot makes the word STALE and leaves its agreed value (R17, R18). (Each row as one command: log 1.) -/
def Obligations.BusEventsTakeEffect : Prop :=
  (∀ s : State, s.AtRest → s.straps.role = .follower → s.sbi.sync = .search → s.sbi.searchCount = 2 →
     exec .lockingEntry s = .next (s.onSbi fun b => { b with sync := .locking, searchCount := 3 })) ∧
  (∀ s : State, s.AtRest → s.Roomy → s.straps.role = .follower → s.sbi.sync = .holdover → s.sbi.missing = 9 →
     ∃ t, exec .busLost s = .next t ∧ Logged [⟨.bus, 0, .busLost, 2, none⟩]
       (s.onSbi fun b => { b with sync := .search, searchCount := 0, missing := 10, blindFlag := true, blind := 1 }) t) ∧
  (∀ (s : State) (n : Nat), s.AtRest → s.Roomy → s.sbi.blindFlag = true → s.sbi.lostRaised = false →
     tBlind s.su.inUse ≠ 0 →
     n = (if tBlind s.su.inUse * 10 ≤ s.sbi.blind then s.sbi.blind else min 2147483647 (s.sbi.blind + 1)) →
     tBlind s.su.inUse * 10 ≤ n →
     ∃ t, exec .blindTimeThreshold s = .next t ∧
       RowTaken 36 n (s.onSbi fun b => { b with lostRaised := true, blind := n }) t) ∧
  (∀ (s : State) (i : Fin 48) (tag : BitVec 4), s.AtRest → s.Roomy → s.sbi.sync = .run →
     (i.val = 46 ∨ s.sbi.map[i].kind = 1 ∨ s.sbi.map[i].kind = 2) →
     tag.toNat ≠ (if i.val = 46 then 0 else s.sbi.map[i].tag.toNat) →
     s.sbi.checks[i] = ⟨2, false⟩ →
     ∃ t, exec (.slotConflict i tag) s = .next t ∧
       Logged [⟨.bus, 0, .slotConflict, 2, some ((16 * i.val + tag.toNat : Nat) : Int)⟩]
         (s.onSbi fun b => { b with checks := b.checks.set i ⟨3, true⟩ }) t) ∧
  (∀ (s : State) (w : Fin 16), s.AtRest → s.sbi.words[w].gap = 9 →
     exec (.indicationStale w) s = .next (s.onSbi fun b =>
       { b with words := b.words.set w { b.words[w] with candCount := 0, gap := 10, valid := false } }))

/-- FRAME of a follower (R4 to R7, R9), which completes in every state. SEARCH: a missing sync sets the count of
correctly spaced syncs to 0 (log 13), one out of place to 1, one at its place adds 1, and the third enters LOCKING,
also where it is a marker (log 40). LOCKING: a missing sync gives SEARCH; a multiframe marker at its place whose slot 0
is not silent and carries number 0 enters RUN with position 0, missing count 0, blind time 0 and blind and raised flags
clear. In SEARCH and LOCKING the blind time counts while the blind flag is set, up to 2,147,483,647; the position and
the missing count stand still in every frame that does not enter RUN (logs 12 and 13). RUN and HOLDOVER: a sync at its
place keeps or restores RUN; a missing one gives HOLDOVER, and the tenth the way through LOST to SEARCH with the blind
time 1; the position advances, and a marker sets it to 0. The synchronisation of the frame that enters RUN hands over
BUS_SYNC with the blind time (R5, R7). -/
def Obligations.FrameFollowsTheSync : Prop :=
  (∀ (s : State) (inp : FrameInput) (n : Nat), s.straps.role = .follower →
    n = (if s.sbi.blindFlag then min 2147483647 (s.sbi.blind + 1) else s.sbi.blind) →
    ∃ t, exec (.frame inp) s = .next t ∧
    (s.sbi.sync = .search ∨ s.sbi.sync = .lost →
      t.sbi.position = s.sbi.position ∧ t.sbi.missing = s.sbi.missing ∧ t.sbi.blindFlag = s.sbi.blindFlag ∧
      t.sbi.blind = n ∧
      (inp.sync = .missing → t.sbi.sync = .search ∧ t.sbi.searchCount = 0) ∧
      (∀ marker, inp.sync = .elsewhere marker → t.sbi.sync = .search ∧ t.sbi.searchCount = 1) ∧
      (∀ marker, inp.sync = .atPlace marker →
        (s.sbi.searchCount + 1 ≠ 3 → t.sbi.sync = .search ∧ t.sbi.searchCount = s.sbi.searchCount + 1) ∧
        (s.sbi.searchCount + 1 = 3 → t.sbi.sync = .locking))) ∧
    (s.sbi.sync = .locking →
      ((∀ marker, inp.sync ≠ .atPlace marker) → t.sbi.sync = .search ∧ t.sbi.searchCount = 0 ∧ t.sbi.blind = n ∧
        t.sbi.position = s.sbi.position ∧ t.sbi.missing = s.sbi.missing) ∧
      (inp.sync = .atPlace true → inp.slots[0] ≠ ⟨0xFFFF, 15⟩ → inp.slots[0].data.toNat % 32 = 0 →
        t.sbi.sync = .run ∧ t.sbi.position = 0 ∧ t.sbi.missing = 0 ∧ t.sbi.blindFlag = false ∧ t.sbi.blind = 0 ∧
          t.sbi.lostRaised = false) ∧
      (∀ marker, inp.sync = .atPlace marker →
        marker = false ∨ inp.slots[0] = ⟨0xFFFF, 15⟩ ∨ inp.slots[0].data.toNat % 32 ≠ 0 →
        t.sbi.sync = .locking ∧ t.sbi.blindFlag = s.sbi.blindFlag ∧ t.sbi.blind = n ∧ t.sbi.position = s.sbi.position ∧
          t.sbi.missing = s.sbi.missing)) ∧
    (∀ marker, (s.sbi.sync = .run ∨ s.sbi.sync = .holdover) → inp.sync = .atPlace marker →
      t.sbi.sync = .run ∧ t.sbi.missing = 0 ∧
      t.sbi.position = (if marker then 0 else (s.sbi.position + 1) % 32) ∧ t.sbi.blind = s.sbi.blind) ∧
    ((∀ marker, inp.sync ≠ .atPlace marker) →
      (s.sbi.sync = .run → t.sbi.sync = .holdover ∧ t.sbi.missing = 1 ∧
        t.sbi.position = (s.sbi.position + 1) % 32) ∧
      (s.sbi.sync = .holdover → s.sbi.missing + 1 ≠ 10 → t.sbi.sync = .holdover ∧ t.sbi.missing = s.sbi.missing + 1 ∧
        t.sbi.position = (s.sbi.position + 1) % 32) ∧
      (s.sbi.sync = .holdover → s.sbi.missing + 1 = 10 → t.sbi.sync = .search ∧ t.sbi.missing = 10 ∧
        t.sbi.blindFlag = true ∧ t.sbi.blind = 1))) ∧
  (∀ (s : State) (inp : FrameInput), s.straps.role = .follower → s.sbi.sync = .locking → inp.sync = .atPlace true →
    inp.slots[0] ≠ ⟨0xFFFF, 15⟩ → inp.slots[0].data.toNat % 32 = 0 →
    (syncStep inp s).wires.events = s.wires.events ++ [(.sbi, ⟨.bus, 0, .busSync, 3, some (s.sbi.blind : Int)⟩)])

/-- FRAME: what the device drives. Each COMMAND_OUT slot carries its command word as it stood at the start of the
frame, with the device's own tag, in every frame in which the device drives the bus, and no slot is driven in another
(R9, R20). Slot 47 carries the service word (R25, R27, R28, R42): the byte presented, or the byte that this frame
presents by inverting WV, or FFh when none is presented; WV, the down receiver's WT and the ABORT flag; a pending
REPLY, or an EVENT where none is, starts with its type byte in a frame in which the transmitter is free (R38); when a
first byte may be presented after an abort is log 29. Slot 0 of a master carries the frame number, the time-set flag
and the fallback flag, and its frame sync is a marker in frame 0; a follower drives neither (R1, R3). -/
def Obligations.FrameDrivesTheSlots : Prop :=
  ∀ (s t : State) (inp : FrameInput), s.su.verify = none → s.su.scrubFailed = false →
    exec (.frame inp) s = .next t →
    ((t.sbi.sync = .run ∨ t.sbi.sync = .holdover) →
      (∀ (i : Fin 48) (w : Fin 16), 1 ≤ i.val → i.val ≤ 45 → s.sbi.map[i].kind = 3 →
        s.sbi.map[i].target.toNat = w.val → t.sbi.sent[i] = some ⟨s.sbi.commands[w], s.straps.addr⟩) ∧
      (∀ i : Fin 48, 1 ≤ i.val → i.val ≤ 45 → s.sbi.map[i].kind ≠ 3 → t.sbi.sent[i] = none) ∧
      (s.straps.role = .master → t.sbi.sent[0] =
        some ⟨BitVec.ofNat 16 (t.sbi.position + 256 * t.scu.timeSet.toNat + 512 * t.su.inUse.isNone.toNat),
          s.straps.addr⟩) ∧
      (s.straps.role = .follower → t.sbi.sent[0] = none) ∧
      ∀ (d : Byte) (sot wv : Bool), s.scu.job ≠ some .restart →
        ((∃ kind rest, s.scu.up = some ⟨kind, d :: rest, sot, true⟩) ∧ wv = s.scu.wv) ∨
        ((∃ kind rest, s.scu.up = some ⟨kind, d :: rest, sot, false⟩) ∧ s.scu.abortCount = 0 ∧
          (sot = true → s.scu.level = false) ∧ wv = !s.scu.wv) ∨
        ((∃ kind bytes first, s.scu.up = some ⟨kind, bytes, first, false⟩ ∧
            (s.scu.abortCount ≠ 0 ∨ (first = true ∧ s.scu.level = true))) ∧
          d = 0xFF ∧ sot = false ∧ wv = s.scu.wv) ∨
        (s.scu.up = none ∧ (s.scu.abortCount ≠ 0 ∨ (s.scu.reply = none ∧ s.eru.queue = []) ∨ s.scu.level = true) ∧
          d = 0xFF ∧ sot = false ∧ wv = s.scu.wv) ∨
        (s.scu.up = none ∧ s.scu.abortCount = 0 ∧ s.scu.level = false ∧ sot = true ∧ wv = !s.scu.wv ∧
          (((∃ r, s.scu.reply = some r) ∧ d = Config.replyType) ∨
            (s.scu.reply = none ∧ s.eru.queue ≠ [] ∧ d = Config.eventType))) →
        t.sbi.sent[47] = some ⟨BitVec.ofNat 16 (d.toNat + 256 * sot.toNat + 512 * wv.toNat + 1024 * s.scu.wt.toNat +
          (if s.scu.abortCount = 0 then 0 else 2048)), s.straps.addr⟩) ∧
    (t.sbi.sync ≠ .run → t.sbi.sync ≠ .holdover → ∀ i : Fin 48, t.sbi.sent[i] = none) ∧
    (s.straps.role = .master → t.sbi.position = (if s.fresh then 0 else (s.sbi.position + 1) % 32) ∧
      t.sbi.sentSync = some (t.sbi.position == 0)) ∧
    (s.straps.role = .follower → t.sbi.sentSync = none)

/-- FRAME: the indication words (R15, R17, R18), with no telegram in hand. A usable slot sets the gap count to 0; the
candidate received a second time in a row is agreed, the word VALID, and the time of the last agreed change that of
this frame when the agreed value changes; any other value becomes the candidate with count 1. A frame outside RUN,
without a slot for the word, or with a slot that is silent or of a wrong tag, sets the candidate count to 0 and adds 1
to the gap count, at most 10, where the word becomes STALE. INDICATION_CHANGE (R19): handed over with the new agreed
value when a bit of the report mask changes, and otherwise not. -/
def Obligations.FrameAgreesOnIndicationWords : Prop :=
  (∀ (s t : State) (inp : FrameInput) (w : Fin 16) (d : Indication), s.scu.job = none → exec (.frame inp) s = .next t →
    d = s.sbi.words[w] →
    ((t.sbi.sync ≠ .run ∨ (∀ i : Fin 48, ¬ (s.sbi.map[i].kind = 2 ∧ s.sbi.map[i].target.toNat = w.val)) ∨
        (mapUnique s.sbi.map = true ∧ ∃ i : Fin 48, i.val ≠ 46 ∧ s.sbi.map[i].kind = 2 ∧
          s.sbi.map[i].target.toNat = w.val ∧
          (inp.slots[i] = ⟨0xFFFF, 15⟩ ∨ inp.slots[i].tag.toNat ≠ s.sbi.map[i].tag.toNat))) →
      t.sbi.words[w] = { d with
        candCount := 0, gap := min 10 (d.gap + 1), valid := d.valid && decide (d.gap + 1 < 10) }) ∧
    (∀ i : Fin 48, t.sbi.sync = .run → mapUnique s.sbi.map = true → i.val ≠ 46 → s.sbi.map[i].kind = 2 →
      s.sbi.map[i].target.toNat = w.val → inp.slots[i] ≠ ⟨0xFFFF, 15⟩ →
      inp.slots[i].tag.toNat = s.sbi.map[i].tag.toNat →
      (1 ≤ d.candCount → inp.slots[i].data = d.candidate → t.sbi.words[w] = { d with
        gap := 0, candCount := 2, agreed := d.candidate, valid := true
        changed := if d.candidate = d.agreed then d.changed else t.scu.clock }) ∧
      (d.candCount = 0 ∨ inp.slots[i].data ≠ d.candidate → t.sbi.words[w] = { d with
        gap := 0, candidate := inp.slots[i].data, candCount := 1 }))) ∧
  (∀ (s : State) (w : Fin 16) (v : Word),
    (1 ≤ s.sbi.words[w].candCount → v = s.sbi.words[w].candidate →
      (s.sbi.words[w].agreed ^^^ v) &&& s.sbi.words[w].mask ≠ 0 →
      (indicationStep (some v) w s).wires.events =
        s.wires.events ++ [(.sbi, ⟨.indication, w.val, .indicationChange, 3, some (v.toNat : Int)⟩)]) ∧
    (s.sbi.words[w].candCount = 0 ∨ v ≠ s.sbi.words[w].candidate ∨
        (s.sbi.words[w].agreed ^^^ v) &&& s.sbi.words[w].mask = 0 →
      (indicationStep (some v) w s).wires.events = s.wires.events) ∧
    (indicationStep none w s).wires.events = s.wires.events)

/-- FRAME with no telegram in hand and no change of settings due, which completes. The loadable tables, the overrides
and the setpoint stand as they were, and a stored group word changes by a disturbance of its storage alone (R11, R19,
R63, R101, R174, R188, R196). Every channel takes the frame's input through the stage and the delay line, and the
vector is the frame's (R50, R56, R60). What a channel's work is: a raw value present sets the hold count to 0 and gives
the scaled value, VALID within the limit and the new last good value, or SATURATED with the last good value kept (R53);
an invalid one adds 1 to the hold count, up to 4, and gives the last good value, HELD while the count is within the
allowance and INVALID above it (R54); a channel without a source or UNUSED gives the last good value INVALID, with hold
count 4 (R55). The result becomes the newest entry of the line, the fill count counts VALID results, and the output is
the delayed entry, forced INVALID while a fill or blank count stands (R56 to R58). -/
def Obligations.FrameMeasuresAndKeepsWhatIsLoaded : Prop :=
  (∀ (s : State) (inp : FrameInput), s.su.verify = none → s.su.scrubFailed = false → s.scu.job = none →
    ∃ t, exec (.frame inp) s = .next t ∧
    t.sbi.map = s.sbi.map ∧ (∀ w : Fin 16, t.sbi.words[w].mask = s.sbi.words[w].mask) ∧
    t.eru.programme = s.eru.programme ∧ t.cb.programme = s.cb.programme ∧ t.su.inUse = s.su.inUse ∧
    (∀ k : Fin 6, (t.feeder k).serviceOut = (s.feeder k).serviceOut) ∧ t.rcu.uset = s.rcu.uset ∧
    (∀ (g : Group) (i : Fin 870), (∀ d ∈ inp.disturbed, d.group = g → d.index ≠ i) →
      (t.su.groupRec g).words[i] = (s.su.groupRec g).words[i]) ∧
    ∀ c : Fin 32,
      (t.sbi.sync ≠ .run → t.sbi.sync ≠ .holdover → t.mu[c] = s.mu[c].work (s.chan c) .noSource) ∧
      (t.sbi.sync = .holdover → t.mu[c] = s.mu[c].work (s.chan c) .invalid) ∧
      (t.sbi.sync = .run → (∀ i : Fin 48, s.sbi.map[i].kind = 1 → s.sbi.map[i].target.toNat ≠ c.val) →
        t.mu[c] = s.mu[c].work (s.chan c) .noSource) ∧
      (t.sbi.sync = .run → mapUnique s.sbi.map = true → ∀ i : Fin 48, i.val ≠ 46 → s.sbi.map[i].kind = 1 →
        s.sbi.map[i].target.toNat = c.val →
        t.mu[c] = s.mu[c].work (s.chan c)
          (if inp.slots[i].data = 0xFFFF ∧ inp.slots[i].tag = 15 then .invalid
           else if inp.slots[i].tag.toNat = s.sbi.map[i].tag.toNat then
             (if inp.slots[i].data = 0x8000 then .invalid else .present inp.slots[i].data.toInt)
           else .invalid))) ∧
  (∀ (v : ChanView) (ch d : Channel) (raw : Raw) (r : Output), d = ch.work v raw → r = d.line[0] →
    (v.kind = 0 ∨ raw = .noSource → r = ⟨ch.lastGood, .invalid⟩ ∧ d.hold = 4 ∧ d.lastGood = ch.lastGood) ∧
    (v.kind ≠ 0 → raw = .invalid → d.hold = min 4 (ch.hold + 1) ∧ d.lastGood = ch.lastGood ∧
      r = ⟨ch.lastGood, if d.hold ≤ v.allowance then .held else .invalid⟩) ∧
    (∀ x, v.kind ≠ 0 → raw = .present x → d.hold = 0 ∧
      ((scale v x).natAbs < v.limit → r = ⟨scale v x, .valid⟩ ∧ d.lastGood = scale v x) ∧
      (v.limit ≤ (scale v x).natAbs → r.quality = .saturated ∧ d.lastGood = ch.lastGood)) ∧
    (∀ (j : Nat) (h : j + 1 < 8), d.line[j + 1] = ch.line[j]) ∧
    d.fill = (if ch.fill = 0 then 0 else if r.quality = .valid then ch.fill - 1 else v.delay + 1) ∧
    d.blank = ch.blank - 1 ∧ d.prevOut = ch.out ∧
    ∀ h : v.delay < 8,
      d.out = if d.fill ≠ 0 ∨ ch.blank ≠ 0 then ⟨d.line[v.delay].value, .invalid⟩ else d.line[v.delay])

/-- FRAME: a QUERY in hand is answered DONE with its data from the state at the start of the frame (R31, R35), and a
telegram is answered in the frame after the one that completed it. The state at the start of the frame is the one that
the frame before left, but for a settings change that takes effect from this frame, such as the fallback operation
after a failed scrub (R99, R101; log 47). Of that the sequences show the attempt count 0 alone (log 53), and what the
frame forms later still reads as in the frame before (log 55). -/
def Obligations.FrameAnswersAQueryInHand : Prop :=
  ∀ (s t : State) (inp : FrameInput) (q : Request) (data : List Byte), s.scu.work = .working → s.scu.job = some q →
    s.scu.reply = none → s.scu.assembly = .empty → (∀ u, s.scu.up = some u → u.kind = .event) → s.su.verify = none →
    q.typeByte = 5 → (answer (startOfFrame inp s) q).map Answer.data = some data →
    (answer (startOfFrame inp s) q).map Answer.result = some .done →
    exec (.frame inp) s = .next t →
    t.scu.work = .replyPending ∧ t.scu.job = none ∧ (∃ shows, t.scu.reply = some ⟨5, .done, data, shows⟩) ∧
      (s.su.scrubFailed = false → answer (startOfFrame inp s) q = answer s q)

/-- FRAME completes in every state and for every input (R9). The 1 µs timer advances by the frame's µs, and the frame
is stamped with the timer at its start (R162). The clock advances by one frame, the frame within the ms counting 0 to
9, the ms of day to 86,399,999 and the day wrapping from 65535; a SET TIME of the frame before is read instead (R37).
The first frame after power-on keeps the power-on time (log 6). SET TIME (R37): the reply is DONE, and the next frame
reads the given day and ms with frame 0 and sets the time-set flag; no event. (Each telegram as one command: log 3.) -/
def Obligations.TheClockAdvancesAndIsSet : Prop :=
  (∀ (s : State) (inp : FrameInput), ∃ t, exec (.frame inp) s = .next t ∧ t.timer = s.timer + inp.micros.length ∧
     t.prevStamp = s.stamp ∧ t.stamp = s.timer ∧
     (∀ c, s.scu.clockLoad = some c → t.scu.clock = c ∧ t.scu.timeSet = true) ∧
     (s.scu.clockLoad = none → s.fresh = true → t.scu.clock = s.scu.clock) ∧
     (s.scu.clockLoad = none → s.fresh = false → t.scu.timeSet = s.scu.timeSet ∧
       t.scu.clock =
         if s.scu.clock.frame < 9 then ⟨s.scu.clock.day, s.scu.clock.ms, s.scu.clock.frame + 1⟩
         else if s.scu.clock.ms < 86399999 then ⟨s.scu.clock.day, s.scu.clock.ms + 1, 0⟩
         else ⟨(s.scu.clock.day + 1) % 65536, 0, 0⟩)) ∧
  (∀ (day : Word) (ms : BitVec 32) (s : State), s.AtRest → s.scu.work = .free → ms.toNat ≤ 86399999 →
     ∃ t, exec (.setTime day ms) s = .next t ∧
       t = (s.onScu fun u => { u.answered 6 .done [] with clockLoad := some ⟨day.toNat, ms.toNat, 0⟩ }) ∧
       ∀ (inp : FrameInput) (u : State), exec (.frame inp) t = .next u →
         u.scu.clock = ⟨day.toNat, ms.toNat, 0⟩ ∧ u.scu.timeSet = true)

/-! ## The service channel -/

/-- ABORT_END: the last ABORT frame has gone out; the sender is idle with its WV (R28), and the WT of the device's own
ABORT frames counts for nothing (log 29). GAP_TIMEOUT: a partial telegram is discarded in the 200th frame without a
byte (R29). UP_BYTE_TAKEN: the presented byte is taken (R27). The last byte of a REPLY frees the work state, and of a
STATUS reply that showed the queue-overflow flag clears the flag unless a record has been discarded since (R31, R35);
the last byte of an EVENT telegram removes the records it carried that are still in the queue (R39, R186).
UP_TELEGRAM_START: a free transmitter starts the pending REPLY, and with none pending an EVENT telegram with the
oldest 1 to 8 records, which stay in the queue, each marked as carried and in nothing else changed (R38, R39; the mark
is log 33). (Each row as one command: log 1. UP_BYTE_TAKEN
in any sync state is the model's, outside RUN no frame of the device shows it: log 43. UP_TELEGRAM_START with nothing
to send leaves the state as it is: log 2.) -/
def Obligations.TransfersEndAndTelegramsGoUp : Prop :=
  (∀ s : State, s.AtRest → (s.sbi.sync = .run ∨ s.sbi.sync = .holdover) → s.scu.abortCount = 1 →
     exec .abortEnd s = .next (s.onScu fun u =>
       { u with abortCount := 0, lastAck := u.wv, lastWt := none, level := true })) ∧
  (∀ s : State, s.AtRest → s.scu.assembly ≠ .empty → s.scu.gap = 199 →
     exec .gapTimeout s = .next (s.onScu fun u => { u with gap := 200, assembly := .empty, buffer := [] })) ∧
  (∀ (s : State) (kind : UpKind) (b : Byte) (rest : List Byte) (first : Bool), s.AtRest →
     s.scu.up = some ⟨kind, b :: rest, first, true⟩ →
     (rest ≠ [] → exec .upByteTaken s = .next (s.onScu fun u =>
       { u with lastAck := u.wv, up := some ⟨kind, rest, false, false⟩ })) ∧
     (∀ r, rest = [] → kind = .reply → s.scu.reply = some r →
       exec .upByteTaken s = .next ((s.onScu fun u =>
         { u with lastAck := u.wv, up := none, work := .free, reply := none }).onEru fun e =>
         { e with overflow := e.overflow && !(r.showsOverflow && !e.discarded) })) ∧
     (rest = [] → kind = .event → exec .upByteTaken s = .next ((s.onScu fun u =>
       { u with lastAck := u.wv, up := none }).onEru fun e => { e with queue := e.queue.filter fun x => !x.carried }))) ∧
  (∀ s : State, s.AtRest → s.scu.up = none → s.scu.abortCount = 0 →
     (∀ r, s.scu.reply = some r → exec .upTelegramStart s = .next (s.onScu fun u =>
       { u with up := some ⟨.reply, r.telegram, true, false⟩ })) ∧
     (s.scu.reply = none → s.eru.queue ≠ [] → exec .upTelegramStart s =
       .next ((s.onScu fun u => { u with up := some ⟨.event, eventTelegram (s.eru.queue.take 8), true, false⟩ }).onEru
         fun e => { e with
           queue := (e.queue.take 8).map (fun r => { r with carried := true }) ++ e.queue.drop 8 })) ∧
     (s.scu.reply = none → s.eru.queue = [] → exec .upTelegramStart s = .next s))

/-- TAKE_BYTE: WT inverts and the gap count returns to 0 (R26, R29); a byte with SOT starts a telegram in any assembly
state; one without SOT is dropped unless a telegram is being assembled; a byte with SOT is held back while the work
state is not FREE (R32). TAKE_BYTE in ASSEMBLING (R29, R30): the byte joins the telegram; a length above 1024 is
refused with LENGTH and the rest discarded; the last byte hands a telegram that passes the checks to its owner, and
refuses another with the first check that fails. (Each row as one command: log 1. The command asks for no sync state;
outside RUN no frame of the device takes a byte: log 43.) -/
def Obligations.TakeByteAssemblesTelegrams : Prop :=
  (∀ (s : State) (b : Byte), s.AtRest →
     (s.scu.work = .free → exec (.takeByte b true) s = .next (s.onScu fun u =>
       { u with wt := !u.wt, gap := 0, pair := none, assembly := .assembling, buffer := [b] })) ∧
     (s.scu.work ≠ .free → exec (.takeByte b true) s = .next s) ∧
     (s.scu.assembly ≠ .assembling → exec (.takeByte b false) s = .next (s.onScu fun u =>
       { u with wt := !u.wt, gap := 0, pair := none }))) ∧
  (∀ (s : State) (b : Byte) (bytes : List Byte), s.AtRest → s.scu.assembly = .assembling → bytes = s.scu.buffer ++ [b] →
     (bytes.length < 3 ∨ (telegramLength bytes ≤ 1024 ∧ bytes.length ≠ 5 + telegramLength bytes) →
       exec (.takeByte b false) s = .next (s.onScu fun u =>
         { u with wt := !u.wt, gap := 0, pair := none, buffer := bytes })) ∧
     (3 ≤ bytes.length → 1024 < telegramLength bytes →
       exec (.takeByte b false) s = .next (s.onScu fun u =>
         { u with
           wt := !u.wt, gap := 0, pair := none, assembly := .discarding, buffer := [], work := .replyPending, job := none
           reply := some ⟨bytes.getD 0 0, .length, [], false⟩ })) ∧
     (∀ q, telegramLength bytes ≤ 1024 → bytes.length = 5 + telegramLength bytes → checkTelegram bytes = .accept q →
       exec (.takeByte b false) s = .next (s.onScu fun u =>
         { u with
           wt := !u.wt, gap := 0, pair := none, assembly := .empty, buffer := [], work := .working, job := some q })) ∧
     (∀ r, telegramLength bytes ≤ 1024 → bytes.length = 5 + telegramLength bytes → checkTelegram bytes = .refuse r →
       exec (.takeByte b false) s = .next (s.onScu fun u =>
         { u with
           wt := !u.wt, gap := 0, pair := none, assembly := .empty, buffer := [], work := .replyPending, job := none
           reply := some ⟨bytes.getD 0 0, r, [], false⟩ })))

/-- FRAME: the byte handshakes of the service channel, with no telegram in hand and no verification under way, for the
service word `w` of slot 46, or none outside RUN or with a slot 46 of a wrong tag. Down (R26, R28, R29, R32): a second
identical offer in a row is taken as by TAKE_BYTE, unless a byte with SOT is held back; any other offer is kept as the
pair record; a word that offers nothing, carries ABORT or does not arrive empties it; the second ABORT in a row sets
WT to its WV and empties the assembly; the gap count runs in every frame without a take, and discards a partial
telegram at 200. Up (R27): a byte presented before this frame is taken when the incoming WT equals WV for the second
frame in a row, outside the device's own ABORT (the frames that count: log 29). -/
def Obligations.FrameReceivesServiceBytes : Prop :=
  (∀ (s t : State) (inp : FrameInput) (w : ServiceWord), s.scu.job = none → s.su.verify = none →
    exec (.frame inp) s = .next t → t.sbi.sync = .run → inp.slots[46].tag.toNat = 0 →
    w = serviceOf inp.slots[46].data →
    (w.abort = false →
      t.scu.abortRun = 0 ∧
      (s.scu.pair = some ⟨w.wv, w.data, w.sot⟩ → w.wv ≠ s.scu.wt → (w.sot = true → s.scu.work = .free) →
        ∀ u, exec (.takeByte w.data w.sot) s = .next u → t.scu.wt = (!s.scu.wt) ∧ t.scu.gap = 0 ∧ t.scu.pair = none ∧
          t.scu.assembly = u.scu.assembly ∧ t.scu.buffer = u.scu.buffer ∧ t.scu.job = u.scu.job) ∧
      (w.wv ≠ s.scu.wt → s.scu.pair ≠ some ⟨w.wv, w.data, w.sot⟩ ∨ (w.sot = true ∧ s.scu.work ≠ .free) →
        t.scu.pair = some ⟨w.wv, w.data, w.sot⟩ ∧ t.scu.wt = s.scu.wt) ∧
      (w.wv = s.scu.wt → t.scu.pair = none ∧ t.scu.wt = s.scu.wt)) ∧
    (w.abort = true → t.scu.pair = none ∧
      (s.scu.abortRun = 1 → t.scu.wt = w.wv ∧ t.scu.assembly = .empty ∧ t.scu.buffer = [] ∧ t.scu.abortRun = 2) ∧
      (s.scu.abortRun ≠ 1 → t.scu.wt = s.scu.wt ∧ t.scu.abortRun = min 2 (s.scu.abortRun + 1))) ∧
    (∀ (kind : UpKind) (b : Byte) (rest : List Byte) (first : Bool), rest ≠ [] → s.scu.abortCount = 0 →
      s.scu.up = some ⟨kind, b :: rest, first, true⟩ →
      (s.scu.lastWt = some w.wt → w.wt = s.scu.wv →
        t.scu.up = some ⟨kind, rest, false, false⟩ ∧ t.scu.lastAck = s.scu.wv) ∧
      (s.scu.lastWt ≠ some w.wt ∨ w.wt ≠ s.scu.wv → t.scu.up = s.scu.up ∧ t.scu.lastWt = some w.wt))) ∧
  (∀ (s t : State) (inp : FrameInput), s.scu.job = none → s.su.verify = none → exec (.frame inp) s = .next t →
    (t.sbi.sync ≠ .run ∨ inp.slots[46].tag.toNat ≠ 0 →
      t.scu.pair = none ∧ t.scu.abortRun = 0 ∧ t.scu.wt = s.scu.wt ∧ t.scu.lastWt = none) ∧
    (t.scu.gap = 0 ∨ (s.scu.gap < 199 ∧ t.scu.gap = s.scu.gap + 1) ∨
      (199 ≤ s.scu.gap ∧ t.scu.gap = 200 ∧ t.scu.assembly = .empty)) ∧
    (t.scu.wt = s.scu.wt → s.scu.gap < 199 →
      ¬ (t.sbi.sync = .run ∧ inp.slots[46].tag.toNat = 0 ∧ inp.slots[46].data.getLsbD 11 = true ∧ s.scu.abortRun = 1) →
      t.scu.gap = s.scu.gap + 1 ∧ t.scu.assembly = s.scu.assembly ∧ t.scu.buffer = s.scu.buffer))

/-! ## Telegrams -/

/-- A complete telegram given while the work state is not FREE is held back, whatever it is (R32; the telegram as one
command is log 3). Operands out of their range are refused by the SCU with BAD_VALUE, without data and with nothing
else changed (the checks of R34, R35 and R37). -/
def Obligations.TelegramsAreHeldBackOrRefused : Prop :=
  (∀ (q : Request) (s : State), s.scu.work ≠ .free → exec q.instr s = .next s) ∧
  (∀ s : State, s.scu.work = .free →
     (∀ b : Byte, 6 < b.toNat → exec (.openBreaker b) s = .next (s.onScu fun u => u.answered 4 .badValue []) ∧
       exec (.clearLatch b) s = .next (s.onScu fun u => u.answered 4 .badValue []) ∧
       exec (.queryBreaker b) s = .next (s.onScu fun u => u.answered 5 .badValue [])) ∧
     (∀ k : Byte, 5 < k.toNat → exec (.closeFeeder k) s = .next (s.onScu fun u => u.answered 4 .badValue []) ∧
       exec (.resetLockout k) s = .next (s.onScu fun u => u.answered 4 .badValue []) ∧
       exec (.queryFeeder k) s = .next (s.onScu fun u => u.answered 5 .badValue [])) ∧
     (∀ c : Word, c.toInt ∉ ([5, 10, 20, -5, -10, -20] : List Int) →
       exec (.setpointStep c) s = .next (s.onScu fun u => u.answered 4 .badValue [])) ∧
     (∀ k flag : Byte, 5 < k.toNat ∨ 1 < flag.toNat →
       exec (.feederService k flag) s = .next (s.onScu fun u => u.answered 4 .badValue [])) ∧
     (∀ b : Byte, 1 < b.toNat → exec (.releaseRecord b) s = .next (s.onScu fun u => u.answered 4 .badValue [])) ∧
     (∀ (n : Byte) (v : BitVec 48), 15 < n.toNat ∨ 2 ^ 40 ≤ v.toNat →
       exec (.counterPreload n v) s = .next (s.onScu fun u => u.answered 4 .badValue [])) ∧
     (∀ (b : Byte) (first count : Word), 1 < b.toNat ∨ count.toNat = 0 ∨ 48 < count.toNat →
       exec (.queryRecord b first count) s = .next (s.onScu fun u => u.answered 5 .badValue [])) ∧
     (∀ (b : Byte) (first count : Word), b.toNat ≤ 1 → 1 ≤ count.toNat → count.toNat ≤ 48 →
       2048 < first.toNat + count.toNat →
       exec (.queryRecord b first count) s = .next (s.onScu fun u => u.answered 5 .badIndex [])) ∧
     (∀ (day : Word) (ms : BitVec 32), 86399999 < ms.toNat →
       exec (.setTime day ms) s = .next (s.onScu fun u => u.answered 6 .badValue [])))

/-- LOAD of a group table (R91): with the group EMPTY, EDITED or STANDBY, the indices in range and every field in its
range, the words are stored and the group becomes EDITED; with the group ACTIVE or VERIFYING the reply is IN_USE or
BUSY, with an index out of range BAD_INDEX, with a field out of range BAD_VALUE, and nothing is stored. Before the
owner sees it, the SCU refuses a LOAD whose words are not count entries, or too many for a telegram, with LENGTH, one
for the group field none with BAD_TABLE, and one for a group above 2 with BAD_VALUE (R29, R30, R33). (Each telegram as
one command: log 3.) -/
def Obligations.LoadStoresAGroupTable : Prop :=
  (∀ (t : GroupTable) (g : Byte) (first count : Word) (ws : List Word) (s : State), s.AtRest →
    s.takes (.load (.group t) g first count ws) →
    ((s.su.groupRec (groupOf g)).state = .active →
      exec (.loadGroupTable t g first count ws) s = .next (s.onScu fun u => u.answered 1 .inUse [])) ∧
    ((s.su.groupRec (groupOf g)).state = .verifying →
      exec (.loadGroupTable t g first count ws) s = .next (s.onScu fun u => u.answered 1 .busy [])) ∧
    ((s.su.groupRec (groupOf g)).state ≠ .active → (s.su.groupRec (groupOf g)).state ≠ .verifying →
      (¬ (1 ≤ count.toNat ∧ first.toNat + count.toNat ≤ tableSize t) →
        exec (.loadGroupTable t g first count ws) s = .next (s.onScu fun u => u.answered 1 .badIndex [])) ∧
      (1 ≤ count.toNat → first.toNat + count.toNat ≤ tableSize t →
        (everyEntry (fun _ => entryOk (fieldTable t)) (tableWidth t) count.toNat ws = false →
          exec (.loadGroupTable t g first count ws) s = .next (s.onScu fun u => u.answered 1 .badValue [])) ∧
        (everyEntry (fun _ => entryOk (fieldTable t)) (tableWidth t) count.toNat ws = true →
          ∃ w : Contents, exec (.loadGroupTable t g first count ws) s =
              .next ((s.onScu fun u => u.answered 1 .done []).onSu fun u =>
                u.onRec (groupOf g) fun r => { r with state := .edited, words := w }) ∧
            (∀ j, j < ws.length → wordAt w (tableBase t + tableWidth t * first.toNat + j) = ws.getD j 0) ∧
            ∀ i, (i < tableBase t + tableWidth t * first.toNat ∨
                tableBase t + tableWidth t * first.toNat + ws.length ≤ i) →
              wordAt w i = wordAt (s.su.groupRec (groupOf g)).words i)))) ∧
  (∀ (t : GroupTable) (g : Byte) (first count : Word) (ws : List Word) (s : State), s.scu.work = .free →
    (ws.length ≠ count.toNat * tableWidth t ∨ 1024 < 6 + 2 * ws.length →
      exec (.loadGroupTable t g first count ws) s = .next (s.onScu fun u => u.answered 1 .length [])) ∧
    (ws.length = count.toNat * tableWidth t → 6 + 2 * ws.length ≤ 1024 →
      (g = 0 → exec (.loadGroupTable t g first count ws) s = .next (s.onScu fun u => u.answered 1 .badTable [])) ∧
      (2 < g.toNat →
        exec (.loadGroupTable t g first count ws) s = .next (s.onScu fun u => u.answered 1 .badValue []))))

/-- LOAD of SLOT_MAP (R12, R13): an accepted one stores its entries; a slot whose entry changes has its mismatch count
and flag cleared, an indication word whose source changes its candidate count, a channel whose source changes is
forced INVALID for its delay plus 1 frames; nothing else changes. A LOAD with a field out of its range, or after which
two entries of one class would share a target, is refused with BAD_VALUE and changes nothing. (Each telegram as one
command: log 3; the range of an UNUSED entry's target: log 10.) -/
def Obligations.LoadStoresTheSlotMap : Prop :=
  ∀ (first count : Word) (ws : List Word) (s : State), s.AtRest → s.takes (.load .slotMap 0 first count ws) →
    1 ≤ first.toNat → 1 ≤ count.toNat → first.toNat + count.toNat ≤ 46 →
    (everyEntry (fun _ e => slotEntryOk s.straps.addr (slotEntryOf e)) 3 count.toNat ws = false →
      exec (.loadSlotMap 0 first count ws) s = .next (s.onScu fun u => u.answered 1 .badValue [])) ∧
    (mapUnique (mapWith s.sbi.map first.toNat ws count.toNat) = false →
      exec (.loadSlotMap 0 first count ws) s = .next (s.onScu fun u => u.answered 1 .badValue [])) ∧
    (everyEntry (fun _ e => slotEntryOk s.straps.addr (slotEntryOf e)) 3 count.toNat ws = true →
      mapUnique (mapWith s.sbi.map first.toNat ws count.toNat) = true →
      ∃ t, exec (.loadSlotMap 0 first count ws) s = .next t ∧
        t = (((s.onScu fun u => u.answered 1 .done []).onSbi fun b =>
          { b with map := t.sbi.map, checks := t.sbi.checks, words := t.sbi.words }).onMu fun _ => t.mu) ∧
        (∀ i : Fin 48, (i.val < first.toNat ∨ first.toNat + count.toNat ≤ i.val) → t.sbi.map[i] = s.sbi.map[i]) ∧
        (∀ (i : Fin 48) (j : Nat), i.val = first.toNat + j → j < count.toNat →
          t.sbi.map[i] = ⟨ws.getD (3 * j) 0, ws.getD (3 * j + 1) 0, ws.getD (3 * j + 2) 0⟩) ∧
        (∀ i : Fin 48, t.sbi.checks[i] = if t.sbi.map[i] = s.sbi.map[i] then s.sbi.checks[i] else ⟨0, false⟩) ∧
        (∀ w : Fin 16, t.sbi.words[w] = if sourceOf t.sbi.map 2 w.val = sourceOf s.sbi.map 2 w.val then s.sbi.words[w]
          else { s.sbi.words[w] with candCount := 0 }) ∧
        (∀ c : Fin 32, t.mu[c] = if sourceOf t.sbi.map 1 c.val = sourceOf s.sbi.map 1 c.val then s.mu[c]
          else { s.mu[c] with blank := (s.chan c).delay + 1 }))

/-- LOAD of INDICATION, RECORDER and COUNTERS (R19, R188, R196): an accepted one stores its words. A changed recorder
programme starts the buffer in CAPTURE anew; a changed counter entry clears S and the previous condition of its
counter, the value and flags kept. Nothing else changes. A recorder or counter entry with a field out of its range, or
with a code that its source kind does not have, is refused with BAD_VALUE. A LOAD of any of the four station tables is
refused with LENGTH when its words are not the count times the entry width or exceed a payload (R29, R30), with
BAD_TABLE when it names group A or B, with BAD_VALUE for a group number above 2 (R33), and with BAD_INDEX when an index
lies outside the table (R12, R19, R188, R196), also where a field is out of its range as well, an order that R188 and
R196 do not give (log 54). A refused LOAD changes nothing. (Each telegram as one command: log 3.) -/
def Obligations.LoadStoresMasksAndProgrammes : Prop :=
  ∀ (first count : Word) (ws : List Word) (s : State), s.AtRest →
    (s.takes (.load .indication 0 first count ws) → 1 ≤ count.toNat → first.toNat + count.toNat ≤ 16 →
      ∃ t, exec (.loadIndication 0 first count ws) s = .next t ∧
        t = ((s.onScu fun u => u.answered 1 .done []).onSbi fun b => { b with words := t.sbi.words }) ∧
        ∀ w : Fin 16, t.sbi.words[w] = { s.sbi.words[w] with
          mask := if first.toNat ≤ w.val ∧ w.val < first.toNat + count.toNat then ws.getD (w.val - first.toNat) 0
            else s.sbi.words[w].mask }) ∧
    (s.takes (.load .recorder 0 first count ws) → first = 0 → count = 1 →
      (entryOk recorderFields ws = false →
        exec (.loadRecorder 0 first count ws) s = .next (s.onScu fun u => u.answered 1 .badValue [])) ∧
      (entryOk recorderFields ws = true →
      ∃ t, exec (.loadRecorder 0 first count ws) s = .next t ∧
        t = ((s.onScu fun u => u.answered 1 .done []).onEru fun e =>
          { e with programme := t.eru.programme, buffers := t.eru.buffers }) ∧
        (∀ j : Fin 10, t.eru.programme[j] = ws.getD j.val 0) ∧
        ∀ i : Fin 2, t.eru.buffers[i] =
          if t.eru.programme ≠ s.eru.programme ∧ s.eru.buffers[i].state = .capture then
            { s.eru.buffers[i] with programme := t.eru.programme, written := 0, decim := 0 }
          else s.eru.buffers[i])) ∧
    (s.takes (.load .counters 0 first count ws) → 1 ≤ count.toNat → first.toNat + count.toNat ≤ 16 →
      (everyEntry (fun _ => counterEntryOk) 9 count.toNat ws = false →
        exec (.loadCounters 0 first count ws) s = .next (s.onScu fun u => u.answered 1 .badValue [])) ∧
      (everyEntry (fun _ => counterEntryOk) 9 count.toNat ws = true →
      ∃ t, exec (.loadCounters 0 first count ws) s = .next t ∧
        t = ((s.onScu fun u => u.answered 1 .done []).onCb fun c =>
          { c with programme := t.cb.programme, counters := t.cb.counters }) ∧
        (∀ i : Fin 144, t.cb.programme[i] =
          if 9 * first.toNat ≤ i.val ∧ i.val < 9 * first.toNat + ws.length then ws.getD (i.val - 9 * first.toNat) 0
          else s.cb.programme[i]) ∧
        ∀ n : Fin 16, t.cb.counters[n] =
          if entryDiffers s.cb.programme t.cb.programme n then { s.cb.counters[n] with sub := 0, prev := false }
          else s.cb.counters[n])) ∧
    (∀ (tb : TableId) (g : Byte), s.scu.work = .free → tb.wantsGroup = false →
      (ws.length ≠ count.toNat * tb.width ∨ 1024 < 6 + 2 * ws.length →
        exec (Request.load tb g first count ws).instr s = .next (s.onScu fun u => u.answered 1 .length [])) ∧
      (ws.length = count.toNat * tb.width → 6 + 2 * ws.length ≤ 1024 →
        (g = 1 ∨ g = 2 →
          exec (Request.load tb g first count ws).instr s = .next (s.onScu fun u => u.answered 1 .badTable [])) ∧
        (2 < g.toNat →
          exec (Request.load tb g first count ws).instr s = .next (s.onScu fun u => u.answered 1 .badValue [])) ∧
        (g = 0 → ¬ (1 ≤ count.toNat ∧ tb.lowest ≤ first.toNat ∧ first.toNat + count.toNat ≤ tb.highest + 1) →
          exec (Request.load tb g first count ws).instr s = .next (s.onScu fun u => u.answered 1 .badIndex []))))

/-- READ after LOAD, for every table (R14, R19, R92, R188, R196): once the LOAD's reply has gone out, a READ of the
same indices answers DONE with the table, the group, the first index and the count, and the words loaded; it changes
nothing but the reply. READ of each table, in every state (R14, R19, R92, R188, R196): indices in range give DONE with
the stored words, others BAD_INDEX; nothing else changes. (Each telegram as one command: log 3.) -/
def Obligations.ReadReturnsWhatIsStored : Prop :=
  (∀ (tb : TableId) (g : Byte) (first count : Word) (ws : List Word) (s : State), s.AtRest →
     s.takes (.load tb g first count ws) → (answerLoad s tb g first count ws).result = .done →
     ∃ t, exec (Request.load tb g first count ws).instr s = .next t ∧
       ∀ u, u = (t.onScu fun c => { c with work := .free, reply := none }) →
         exec (Request.read tb g first count).instr u =
           .next (u.onScu fun c => c.answered 2 .done ([byte1 tb.code, g] ++ bytesOf [first, count] ++ bytesOf ws))) ∧
  (∀ (tb : TableId) (g : Byte) (first count : Word) (s : State), s.AtRest → s.takes (.read tb g first count) →
     (1 ≤ count.toNat → tb.lowest ≤ first.toNat → first.toNat + count.toNat ≤ tb.highest + 1 →
       exec (Request.read tb g first count).instr s = .next (s.onScu fun c => c.answered 2 .done
         ([byte1 tb.code, g] ++ bytesOf [first, count] ++ bytesOf (storedWords s tb g first.toNat count.toNat)))) ∧
     (¬ (1 ≤ count.toNat ∧ tb.lowest ≤ first.toNat ∧ first.toNat + count.toNat ≤ tb.highest + 1) →
       exec (Request.read tb g first count).instr s = .next (s.onScu fun c => c.answered 2 .badIndex [])))

/-- The eight queries answer DONE with the words of their subject, by the state as it stands, and change nothing but the
reply; a STATUS reply notes whether it shows the queue-overflow flag (R35). RECORD of a buffer that is not HELD is
refused (R194). The lengths of the query data in words: STATUS 131 (R44), MEASUREMENTS 96 (R60), FEEDER 21 of the
FPU (R88) and 18 of the RCL (R158), BREAKER 21 (R134), RECTIFIER 29 (R182), COUNTERS 82 (R205), RECORD INFO 41
(R195), RECORD 3 and ten for each entry (R46); and every word of STATUS, BREAKER, RECTIFIER, COUNTERS and RECORD
INFO at the place that its rule gives it (a negative U_ref in word 10 of RECTIFIER: log 52). (Each telegram as one
command: log 3.) -/
def Obligations.QueriesAnswerAndChangeNothing : Prop :=
  (∀ s : State, s.AtRest → s.scu.work = .free →
     exec .queryStatus s = .next ((s.onScu fun u => { u.answered 5 .done [] with
       reply := some ⟨5, .done, bytesOf (statusWords s), s.eru.overflow⟩ }).onEru fun e => { e with discarded := false }) ∧
     exec .queryMeasurements s = .next (s.onScu fun u => u.answered 5 .done (bytesOf (measurementWords s))) ∧
     (∀ (b : Byte) (k : Fin 6), b.toNat = k.val → exec (.queryFeeder b) s =
       .next (s.onScu fun u => u.answered 5 .done (bytesOf (feederWords s k ++ seqWords s k)))) ∧
     (∀ (c : Byte) (b : Fin 7), c.toNat = b.val → exec (.queryBreaker c) s =
       .next (s.onScu fun u => u.answered 5 .done (bytesOf (breakerWords s b)))) ∧
     exec .queryRectifier s = .next (s.onScu fun u => u.answered 5 .done (bytesOf (rectifierWords s))) ∧
     exec .queryCounters s = .next (s.onScu fun u => u.answered 5 .done (bytesOf (counterWords s))) ∧
     exec .queryRecordInfo s = .next (s.onScu fun u => u.answered 5 .done (bytesOf (recordInfoWords s))) ∧
     ∀ (b : Byte) (i : Fin 2) (first count : Word), b.toNat = i.val → 1 ≤ count.toNat → count.toNat ≤ 48 →
       first.toNat + count.toNat ≤ 2048 →
       (s.eru.buffers[i].state = .held → exec (.queryRecord b first count) s =
         .next (s.onScu fun u => u.answered 5 .done (bytesOf (recordWords i s.eru.buffers[i] first.toNat count.toNat)))) ∧
       (s.eru.buffers[i].state ≠ .held → exec (.queryRecord b first count) s =
         .next (s.onScu fun u => u.answered 5 .refusedState []))) ∧
  (∀ s : State, (statusWords s).length = 131 ∧ (measurementWords s).length = 96 ∧
     (∀ k, (feederWords s k).length = 21) ∧ (∀ k, (seqWords s k).length = 18) ∧
     (∀ i b first count, (recordWords i b first count).length = 3 + 10 * count) ∧
     (∀ n : Fin 19, (statusWords s)[n.val]? = some (match n.val with
       | 0 => if s.straps.role = .master then 1 else 0
       | 1 => BitVec.ofNat 16 s.straps.addr.toNat
       | 2 => (match s.sbi.sync with
         | .search => 0 | .locking => 1 | .run => 2 | .holdover => 3 | .lost => 4)
       | 3 => BitVec.ofNat 16 s.sbi.missing
       | 4 => BitVec.ofNat 16 (s.sbi.blind / 65536)
       | 5 => BitVec.ofNat 16 s.sbi.blind
       | 6 => BitVec.ofNat 16 s.sbi.position
       | 7 => if s.straps.role = .master then BitVec.ofNat 16 (s.scu.timeSet.toNat + 2 * s.su.inUse.isNone.toNat)
         else BitVec.ofNat 16 (s.sbi.heldTimeSet.toNat + 2 * s.sbi.heldFallback.toNat)
       | 8 => BitVec.ofNat 16 s.scu.clock.day
       | 9 => BitVec.ofNat 16 (s.scu.clock.ms / 65536)
       | 10 => BitVec.ofNat 16 s.scu.clock.ms
       | 11 => BitVec.ofNat 16 s.scu.clock.frame
       | 12 => BitVec.ofNat 16 s.scu.timeSet.toNat
       | 13 => (match s.su.a.state with
         | .empty => 0 | .edited => 1 | .verifying => 2 | .active => 3 | .standby => 4)
       | 14 => (match s.su.b.state with
         | .empty => 0 | .edited => 1 | .verifying => 2 | .active => 3 | .standby => 4)
       | 15 => (match s.su.inUse with
         | none => 0
         | some u => if u.group = .a then 1 else 2)
       | 16 => BitVec.ofNat 16 s.su.inUse.isNone.toNat
       | 17 => BitVec.ofNat 16 s.eru.queue.length
       | _ => BitVec.ofNat 16 s.eru.overflow.toNat)) ∧
     (∀ w : Fin 16, (statusWords s)[19 + w.val]? = some s.sbi.commands[w]) ∧
     ∀ w : Fin 16, (statusWords s)[35 + 6 * w.val]? = some s.sbi.words[w].agreed ∧
       (statusWords s)[36 + 6 * w.val]? = some (if s.sbi.words[w].valid then 0 else 1) ∧
       (statusWords s)[37 + 6 * w.val]? = some (BitVec.ofNat 16 s.sbi.words[w].changed.day) ∧
       (statusWords s)[38 + 6 * w.val]? = some (BitVec.ofNat 16 (s.sbi.words[w].changed.ms / 65536)) ∧
       (statusWords s)[39 + 6 * w.val]? = some (BitVec.ofNat 16 s.sbi.words[w].changed.ms) ∧
       (statusWords s)[40 + 6 * w.val]? = some (BitVec.ofNat 16 s.sbi.words[w].changed.frame)) ∧
  (∀ (s : State) (b : Fin 7) (r : Breaker) (two : Bool → Bool → Nat), r = s.breaker b →
     (∀ p q, two p q = p.toNat + 2 * q.toNat) →
     (breakerWords s b).length = 21 ∧
     (∀ n : Fin 6, (breakerWords s b)[n.val]? = some (match n.val with
       | 0 => (match r.position with
         | .opn => 0 | .closed => 1 | .travel => 2 | .discrepant => 3 | .unknown => 4)
       | 1 => if s.isFitted b then 1 else 0
       | 2 => (match r.op with
         | .none => 0 | .tripping => 1 | .closing => 2)
       | 3 => BitVec.ofNat 16 r.count
       | 4 => BitVec.ofNat 16 r.lastTime
       | _ => BitVec.ofNat 16 (two r.latches.bf r.latches.coilOpen + 4 * two r.latches.coilLost r.latches.closeFail))) ∧
     (∀ (i : Nat) (c : Fin 20), (i = 6 ∧ c = tripChannel b) ∨ (i = 11 ∧ c = closeChannel b) ∨
         (i = 16 ∧ ∃ k : Fin 6, breakerOf k = b ∧ c = testChannel k) →
       (breakerWords s b)[i]? = some (match (s.drive c).state with
         | .off => 0 | .peak => 1 | .hold => 2 | .quench => 3 | .check => 4) ∧
       (breakerWords s b)[i + 1]? = some (if (s.driveRec c).enabled then 1 else 0) ∧
       (breakerWords s b)[i + 2]? = some (BitVec.ofNat 16 (s.drive c).ramp) ∧
       (breakerWords s b)[i + 3]? = some (BitVec.ofNat 16 ((s.drive c).cool / 65536)) ∧
       (breakerWords s b)[i + 4]? = some (BitVec.ofNat 16 (s.drive c).cool)) ∧
     (b = 6 → (breakerWords s b).drop 16 = [0, 0, 0, 0, 0]) ∧
     (rectifierWords s).length = 29 ∧ ∀ n : Fin 29, (rectifierWords s)[n.val]? = some (match n.val with
       | 0 => (match s.rcu.state with
         | .blocked => 0 | .softStart => 1 | .regulating => 2 | .phaseBack => 3 | .fixed => 4)
       | 1 => BitVec.ofNat 16 s.rcu.cause
       | 2 => if s.rcu.sync.valid then 1 else 0
       | 3 => BitVec.ofNat 16 s.rcu.sync.period
       | 4 => BitVec.ofNat 16 s.phaseCounter
       | 5 => BitVec.ofNat 16 s.rcu.sync.acq
       | 6 => BitVec.ofNat 16 s.rcu.sync.missed
       | 7 => BitVec.ofNat 16 s.rcu.alpha
       | 8 => BitVec.ofNat 16 s.rcu.calcAlpha
       | 9 => BitVec.ofNat 16 s.rcu.uset
       | 10 => BitVec.ofInt 16 s.rcu.uref
       | 11 => BitVec.ofInt 16 (s.uBus / 65536)
       | 12 => BitVec.ofInt 16 s.uBus
       | 13 => BitVec.ofInt 16 (s.iRect / 65536)
       | 14 => BitVec.ofInt 16 s.iRect
       | 15 => BitVec.ofInt 16 (s.rcu.integ / 65536)
       | 16 => BitVec.ofInt 16 s.rcu.integ
       | 17 => BitVec.ofNat 16 s.rcu.vd
       | 18 => BitVec.ofNat 16 s.rcu.blockTimer
       | 19 => BitVec.ofNat 16 (s.rcu.pendingThy.elim 12 Fin.val)
       | 20 => if s.rcu.chopper.gate then 1 else 0
       | 21 => if s.rcu.chopper.inhibited then 1 else 0
       | 22 => BitVec.ofNat 16 (s.rcu.chopper.energy / 65536 / 65536)
       | 23 => BitVec.ofNat 16 (s.rcu.chopper.energy / 65536)
       | 24 => BitVec.ofNat 16 s.rcu.chopper.energy
       | 25 => BitVec.ofNat 16 s.rcu.ovl.count
       | 26 => BitVec.ofNat 16 (two s.rcu.ovl.pickup s.rcu.ovl.raised)
       | 27 => BitVec.ofNat 16 s.rcu.ovp.count
       | _ => BitVec.ofNat 16 (two s.rcu.ovp.pickup s.rcu.ovp.raised))) ∧
  (∀ s : State, (counterWords s).length = 82 ∧ (counterWords s)[0]? = some (if s.cb.frozen then 1 else 0) ∧
     (∃ w : Word, (counterWords s)[1]? = some w ∧ ∀ k : Nat, w.getLsbD k = true ↔
       ∃ n : Fin 16, k < 6 ∧ s.cb.counters[n].block = true ∧ s.cb.counters[n].blockFeeder = k) ∧
     (∀ (n : Fin 16) (c : Counter), c = s.cb.counters[n] →
       (counterWords s)[2 + 5 * n.val]? = some (BitVec.ofNat 16 (c.value / 65536 / 65536)) ∧
       (counterWords s)[3 + 5 * n.val]? = some (BitVec.ofNat 16 (c.value / 65536)) ∧
       (counterWords s)[4 + 5 * n.val]? = some (BitVec.ofNat 16 c.value) ∧
       (counterWords s)[5 + 5 * n.val]? = some (BitVec.ofNat 16 c.sub) ∧
       (counterWords s)[6 + 5 * n.val]? =
         some (BitVec.ofNat 16 (c.overflow.toNat + 2 * c.block.toNat + 4 * c.prev.toNat))) ∧
     (recordInfoWords s).length = 41 ∧ (recordInfoWords s)[0]? = some (if s.eru.stopped then 1 else 0) ∧
     ∀ (i : Fin 2) (b : RecBuffer), b = s.eru.buffers[i] →
       ∀ j : Fin 20, (recordInfoWords s)[1 + 20 * i.val + j.val]? = some (match j.val with
         | 0 => (match b.state with
           | .free => 0 | .capture => 1 | .post => 2 | .held => 3)
         | 1 => BitVec.ofNat 16 b.written
         | 2 => BitVec.ofNat 16 b.pre
         | 3 => BitVec.ofNat 16 b.post
         | 4 => (match b.source with
           | .none => 0 | .matrix => 1 | .command => 2 | .both => 3)
         | 5 => BitVec.ofNat 16 b.time.day
         | 6 => BitVec.ofNat 16 (b.time.ms / 65536)
         | 7 => BitVec.ofNat 16 b.time.ms
         | 8 => BitVec.ofNat 16 b.time.frame
         | 9 => BitVec.ofNat 16 b.number
         | 10 => b.programme[8]
         | 11 => b.programme[9]
         | m => wordAt b.programme (m - 12)))

/-- The framing of telegrams (R29, R30, R33, R42, R43): the bytes of every COMMAND, QUERY, ACTIVATE, SET TIME and
RESTART that passes the checks of the SCU, and of every LOAD and READ of R33 that does, are read back as that
telegram. A telegram of a type that only the up direction has, REPLY or EVENT, is refused with UNKNOWN_TYPE when it
comes in the down direction, whatever its payload (R30; the two type bytes are free values, log 9). -/
def Obligations.TelegramsAreReadBack : Prop :=
  (∀ (q : Request) (payload : List Byte), scuCheck q = none →
    (match q with
      | .load t g first count ws => payload = [byte1 t.code, g] ++ bytesOf [first, count] ++ bytesOf ws
      | .read t g first count => payload = [byte1 t.code, g] ++ bytesOf [first, count]
      | .activate g c => payload = g :: wordBytes c
      | .openBreaker b => payload = [1, b]
      | .closeFeeder k => payload = [2, k]
      | .closeAc => payload = [3]
      | .openAll => payload = [4]
      | .clearLatch b => payload = [5, b]
      | .resetLockout k => payload = [6, k]
      | .setpointStep c => payload = 7 :: wordBytes c
      | .setOutput w b v => payload = [8, w, b, v]
      | .feederService k flag => payload = [9, k, flag]
      | .triggerRecord => payload = [10]
      | .releaseRecord b => payload = [11, b]
      | .counterFreeze => payload = [12]
      | .counterUnfreeze => payload = [13]
      | .counterReset m => payload = 14 :: wordBytes m
      | .counterPreload n v => payload = [15, n] ++ bytesOf (word3 v.toNat)
      | .queryStatus => payload = [1]
      | .queryMeasurements => payload = [2]
      | .queryFeeder k => payload = [3, k]
      | .queryBreaker b => payload = [4, b]
      | .queryRectifier => payload = [5]
      | .queryCounters => payload = [6]
      | .queryRecordInfo => payload = [7]
      | .queryRecord b first count => payload = [8, b] ++ bytesOf [first, count]
      | .setTime day ms => payload = bytesOf (day :: word2 ms.toNat)
      | .restart => payload = []) →
    checkTelegram (telegramBytes q.typeByte payload) = .accept q) ∧
  ∀ payload : List Byte, checkTelegram (telegramBytes Config.replyType payload) = .refuse .unknownType ∧
    checkTelegram (telegramBytes Config.eventType payload) = .refuse .unknownType

/-! ## Groups -/

/-- ACTIVATE (R96): an EDITED or STANDBY group becomes VERIFYING, its contents are taken, and the work state stays
WORKING without a reply; EMPTY and ACTIVE are refused, VERIFYING is BUSY. Nothing else changes. VERIFICATION_END that
fails (R98): the group becomes EDITED, and the reply is CRC_MISMATCH with the CRC computed, or CHECK_FAILED with the
table and index of the first failure; the settings in use stay. (A failed scrub of the frame before comes first: see
ScrubChecksTheActiveGroup.) (Each row as one command: log 1; each telegram: log 3.) -/
def Obligations.VerificationStartsAndFails : Prop :=
  (∀ (g : Byte) (crc : Word) (s : State), s.AtRest → s.scu.work = .free → (g = 1 ∨ g = 2) →
     ((s.su.groupRec (groupOf g)).state = .edited ∨ (s.su.groupRec (groupOf g)).state = .standby →
       exec (.activate g crc) s = .next ((s.onScu fun u =>
         { u with assembly := .empty, buffer := [], work := .working, job := none }).onSu fun u =>
         { u.onRec (groupOf g) fun r => { r with state := .verifying } with
           verify := some ⟨groupOf g, crc, (u.groupRec (groupOf g)).words, 63⟩ })) ∧
     ((s.su.groupRec (groupOf g)).state = .empty ∨ (s.su.groupRec (groupOf g)).state = .active →
       exec (.activate g crc) s = .next (s.onScu fun u => u.answered 3 .refusedState [])) ∧
     ((s.su.groupRec (groupOf g)).state = .verifying →
       exec (.activate g crc) s = .next (s.onScu fun u => u.answered 3 .busy []))) ∧
  (∀ (v : Verify) (s : State), s.AtRest → s.su.verify = some v → v.left ≤ 1 →
     s.su.scrubFailed = false →
     (groupCrc v.words ≠ v.expected → exec .verificationEnd s =
       .next ((s.onSu fun u => { u.onRec v.group fun r => { r with state := .edited } with verify := none }).onScu
         fun u => { u with work := .replyPending, job := none
                           reply := some ⟨3, .crcMismatch, wordBytes (groupCrc v.words), false⟩ })) ∧
     (∀ f, groupCrc v.words = v.expected → firstFailure s.straps v.words = some f → exec .verificationEnd s =
       .next ((s.onSu fun u => { u.onRec v.group fun r => { r with state := .edited } with verify := none }).onScu
         fun u => { u with work := .replyPending, job := none
                           reply := some ⟨3, .checkFailed, byte1 f.table :: wordBytes (word1 f.index), false⟩ })))

/-- VERIFICATION_END that passes (R98, R99): the group becomes ACTIVE with its CRC recorded, the other STANDBY if it was
ACTIVE, the copy taken is in use, the setpoint is the group's, the reply is DONE, and GROUP_ACTIVE is in the queue. `n`
is the device with the new settings in use. A rescaled channel is forced INVALID, with hold count 4 (R59); OC and UV are
reset, RR keeps TRIPPED alone, the history goes with its channel (R84). Intertrip-in is formed (R66), and a flag that
becomes set raises its IT row; a breaker newly fitted or no longer has its position formed (R132); BUS_LOST is raised
when the blind time has reached the new T_blind (R8). A row raised has its TRIP event and trips its breakers by the new
matrix (R107). With no row raised: bits whose owner changes are 0 (R21), a hold is kept where its bit is the same
(R100); each sequence keeps all but its sums and the attempts over the new maximum, and goes to LOCKOUT where it is
under way with these (R144, R154); a breaker whose fitted state stays is as it was, so are its trip and close channels
and the record buffers; the rectifier is BLOCKED on a blocking condition (R166), else FIXED becomes SOFT_START, the
angle is held to the new limits or is α_block (R175; unless a point set behind the counter fires at once), and A and
the block timer stay. New sync channels lose the sync (R164). The rest of the bus, the clock and the recorder's
programme stay. (Each row as one command: log 1; the work of the first frame: log 21.) -/
def Obligations.PassedVerificationActivatesTheGroup : Prop :=
  ∀ (v : Verify) (s n : State) (same runs : Bool), s.AtRest → s.Roomy → s.GroupsAgree → s.su.verify = some v →
    v.left ≤ 1 → s.su.scrubFailed = false → groupCrc v.words = v.expected → firstFailure s.straps v.words = none →
    n = (s.onSu fun u => { u with inUse := some ⟨v.group, v.words⟩ }) →
    (same = true ↔ s.rect.sync1 = n.rect.sync1 ∧ s.rect.sync2 = n.rect.sync2 ∧ s.rect.sync3 = n.rect.sync3) →
    (runs = true ↔ s.rcu.sync.valid = true ∧ same = true ∧ n.busOut.quality ≠ .invalid ∧
      (if (s.breaker 6).wasFitted = n.isFitted 6 then (s.breaker 6).position else n.positionNow 6) = .closed) →
    ∃ t, exec .verificationEnd s = .next t ∧
      t.su.groupRec v.group = { s.su.groupRec v.group with state := .active, crc := groupCrc v.words } ∧
      t.su.groupRec (otherGroup v.group) = { s.su.groupRec (otherGroup v.group) with
        state := if (s.su.groupRec (otherGroup v.group)).state = .active then .standby
          else (s.su.groupRec (otherGroup v.group)).state } ∧
      t.su.inUse = some ⟨v.group, v.words⟩ ∧ t.su.verify = none ∧ t.su.scrubTimer = 0 ∧
      t.scu = { s.scu with work := .replyPending, job := none, reply := some ⟨3, .done, [], false⟩ } ∧
      t.rcu.uset = (groupRect v.words).uSet ∧
      (∃ x ∈ t.eru.queue, x.msg = ⟨.group, if v.group = .a then 1 else 2, .groupActive, 1,
        some ((groupCrc v.words).toNat : Int)⟩) ∧
      t.sbi = { s.sbi with
        commands := t.sbi.commands
        lostRaised := s.sbi.lostRaised || (s.sbi.blindFlag && decide (tBlind n.su.inUse ≠ 0) &&
          decide (tBlind n.su.inUse * 10 ≤ s.sbi.blind)) } ∧
      (∀ (c : Fin 32) (o w : ChanView) (ch : Channel), o = s.chan c → w = n.chan c → ch = s.mu[c] → t.mu[c] =
        if o.gain = w.gain ∧ o.offset = w.offset ∧ o.delay = w.delay ∧ (o.kind = 0 ↔ w.kind = 0) then ch else
          { ch with
            blank := w.delay + 1, hold := 4
            fill := if ch.fill ≠ 0 ∧ o.delay ≠ w.delay then w.delay + 1 else ch.fill }) ∧
      (∀ (k : Fin 6) (f : Feeder), f = s.feeder k → t.feeder k = { f with
        ocCount := 0, ocTripped := false, uvTimer := 0, uvPicked := false, intertrip := n.intertripNow k
        rr := if f.rr = .tripped then .tripped else .idle, endCount := if f.rr = .tripped then f.endCount else 0
        resetCount := if f.rr = .tripped then f.resetCount else 0
        history := if (s.feederRec k).current = (n.feederRec k).current then f.history
          else Vector.replicate 5 ⟨0, .invalid⟩ }) ∧
      (∀ b : Fin 7, (t.breaker b).wasFitted = n.isFitted b ∧ (t.breaker b).position =
        if (s.breaker b).wasFitted = n.isFitted b then (s.breaker b).position else n.positionNow b) ∧
      (∀ (r : Fin 40) (value : Int),
        (r = 36 ∧ t.sbi.lostRaised = true ∧ s.sbi.lostRaised = false ∧ value = s.sbi.blind) ∨
          (∃ k : Fin 6, r.val = 6 * k.val + 5 ∧ n.intertripNow k = true ∧ (s.feeder k).intertrip = false ∧
            value = (n.currentOut k).value) →
        (∃ x ∈ t.eru.queue, x.msg = tripEvent n ⟨r, value⟩) ∧
        ∀ b : Fin 7, (appliedTrip n r).getLsbD b.val = true → (t.breaker b).tripTaken = true) ∧
      t.rcu.sync.valid = (s.rcu.sync.valid && same) ∧
      (s.rcu.sync.valid = true → same = false → ∃ x ∈ t.eru.queue, x.msg = ⟨.rectifier, 0, .syncLost, 2, some 4⟩) ∧
      (t.sbi.lostRaised = s.sbi.lostRaised → (∀ k : Fin 6, n.intertripNow k = true → (s.feeder k).intertrip = true) →
        t.eru.buffers = s.eru.buffers ∧
        (∀ b : Fin 7, (s.breaker b).wasFitted = n.isFitted b → t.breaker b = s.breaker b ∧
          t.drive (tripChannel b) = s.drive (tripChannel b) ∧ t.drive (closeChannel b) = s.drive (closeChannel b)) ∧
        (∀ (w : Fin 16) (j : Nat), t.sbi.commands[w].getLsbD j = (s.sbi.commands[w].getLsbD j &&
          decide (bitOwner s.straps s.su.inUse w.val j = bitOwner s.straps n.su.inUse w.val j))) ∧
        (∀ (k : Fin 6) (o w : FeederView), o = s.feederRec k → w = n.feederRec k → t.su.holds[k] =
          if o.outPresent = true ∧ w.outPresent = true ∧ o.outWord = w.outWord ∧ o.outBit = w.outBit then s.su.holds[k]
          else ⟨false, 0⟩) ∧
        (∀ (k : Fin 6) (a : Nat) (q r : Sys2Proof.Machine.Seq), a = (n.recloseRec k).attempts → r = t.seq k →
          q = (if (s.seq k).state = .lineTest ∧ (s.seq k).phase = .sum then
            { s.seq k with sumU := 0, sumI := 0, samples := 0 } else s.seq k) →
          (s.breaker (breakerOf k)).wasFitted = n.isFitted (breakerOf k) →
          (q.attempts ≤ a → r = q) ∧
          (a < q.attempts → r = if q.state = .deadTime ∨ q.state = .precheck ∨ q.state = .lineTest ∨ q.state = .closing
            then { q with state := .lockout, phase := .none, timer := 0, attempts := a, reason := .attemptsUsed }
            else { q with attempts := a })) ∧
        (s.rcu.state = .blocked → t.rcu.state = .blocked) ∧
        (s.rcu.state ≠ .blocked → runs = false → t.rcu.state = .blocked ∧ t.rcu.pendingThy = none) ∧
        (runs = true →
          (s.rcu.state ≠ .blocked → t.rcu.integ = s.rcu.integ ∧ t.rcu.blockTimer = s.rcu.blockTimer) ∧
          (s.rcu.state = .fixed → t.rcu.state = .softStart ∧ t.rcu.alpha = s.rcu.alpha ∧
            ∃ x ∈ t.eru.queue, x.msg = ⟨.rectifier, 0, .rectRun, 1, some 1⟩) ∧
          (s.rcu.state = .phaseBack → t.rcu.state = .phaseBack ∧ t.rcu.alpha = n.rect.aBlock) ∧
          (s.rcu.state = .softStart ∨ s.rcu.state = .regulating →
            (n.rect.aMin ≤ n.rect.aMax → n.rect.aMin ≤ t.rcu.alpha ∧ t.rcu.alpha ≤ n.rect.aMax) ∧
            ∀ a : Nat, a = clampNat n.rect.aMin n.rect.aMax s.rcu.alpha →
              (∀ m, s.rcu.pendingThy = some m → firesAt (forward (firingPoint m a) s.phaseCounter) = false) →
              t.rcu.alpha = a ∧ t.rcu.state = s.rcu.state))) ∧
      t.eru.programme = s.eru.programme ∧ t.cb.programme = s.cb.programme

/-- SCRUB (R101, R105): contents whose CRC is the recorded one leave all as it was but the scrub timer. Other contents
are a scrub failure: SCRUB_FAIL with the CRC found, the group EDITED, and fallback operation with reason SCRUB. Command
bits that a feeder owned are 0 and no hold is left (R21, R100); a rescaled channel is forced INVALID (R59); OC, RR and
UV are reset, RR to IDLE in every case, and no intertrip-in stands (R84, R85). Every sequence under way is in LOCKOUT
with reason FALLBACK, and every attempt count is 0 (R155). A rectifier that fires is FIXED at the strap's angle, with A
kept and RECT_RUN value 4 where it comes from another state, unless a condition of R166 blocks it, and a BLOCKED one
stays (R175); that the abandoned block timer reads 0 is log 45. BUS_LOST is raised, with its TRIP event and the trips
of the fallback matrix, when the blind time has reached the fallback threshold of 1000 frames (R8, R104); with no row
raised, every breaker whose fitted state stays is as it was. VERIFICATION_END in the frame after a failed scrub of the
other group: that group is EDITED, the failure is done with, and the device is under the verified group when it passes
and in fallback operation when it does not (R98, R101). (That failure and its effects come with one command is log 21,
their order log 23.) -/
def Obligations.ScrubChecksTheActiveGroup : Prop :=
  (∀ (u : InUse) (s n : State) (runs : Bool), s.AtRest → s.Roomy → s.su.inUse = some u → s.su.scrubTimer = 9999 →
    s.su.scrubFailed = false → n = (s.onSu fun x => { x with inUse := none }) →
    (runs = true ↔ s.rcu.sync.valid = true ∧ s.rect.sync1 = 16 ∧ s.rect.sync2 = 17 ∧ s.rect.sync3 = 18 ∧
      s.mu[(13 : Fin 32)].out.quality ≠ .invalid ∧
      (if (s.breaker 6).wasFitted then (s.breaker 6).position else n.positionNow 6) = .closed) →
    (groupCrc (s.su.groupRec u.group).words = (s.su.groupRec u.group).crc →
      exec .scrub s = .next (s.onSu fun x => { x with scrubTimer := 0 })) ∧
    (groupCrc (s.su.groupRec u.group).words ≠ (s.su.groupRec u.group).crc →
      ∃ t, exec .scrub s = .next t ∧ t.su.inUse = none ∧ t.su.reason = .scrub ∧ t.su.scrubFailed = false ∧
        (t.su.groupRec u.group).state = .edited ∧ t.su.groupRec (otherGroup u.group) = s.su.groupRec (otherGroup u.group) ∧
        (∃ x ∈ t.eru.queue, x.msg = ⟨.group, if u.group = .a then 1 else 2, .scrubFail, 2,
          some ((groupCrc (s.su.groupRec u.group).words).toNat : Int)⟩) ∧
        (∀ (w : Fin 16) (j : Nat), t.sbi.commands[w].getLsbD j = (s.sbi.commands[w].getLsbD j &&
          (bitOwner s.straps s.su.inUse w.val j).isNone)) ∧
        (∀ k : Fin 6, t.su.holds[k] = ⟨false, 0⟩) ∧
        (∀ (c : Fin 32) (o w : ChanView) (ch : Channel), o = s.chan c → w = n.chan c → ch = s.mu[c] → t.mu[c] =
          if o.gain = w.gain ∧ o.offset = w.offset ∧ o.delay = w.delay ∧ (o.kind = 0 ↔ w.kind = 0) then ch else
            { ch with
              blank := w.delay + 1, hold := 4
              fill := if ch.fill ≠ 0 ∧ o.delay ≠ w.delay then w.delay + 1 else ch.fill }) ∧
        (∀ (k : Fin 6) (f : Feeder), f = s.feeder k → t.feeder k = { f with
          ocCount := 0, ocTripped := false, uvTimer := 0, uvPicked := false, intertrip := false, rr := .idle
          endCount := 0, resetCount := 0
          history := if (s.feederRec k).current = (n.feederRec k).current then f.history
            else Vector.replicate 5 ⟨0, .invalid⟩ }) ∧
        (∀ k : Fin 6, t.seq k = if (s.seq k).state = .idle ∨ (s.seq k).state = .lockout then
            { s.seq k with attempts := 0 }
          else { s.seq k with state := .lockout, phase := .none, timer := 0, attempts := 0, reason := .fallback }) ∧
        (s.rcu.state = .blocked → t.rcu.state = .blocked) ∧ (t.rcu.state = .fixed ∨ t.rcu.state = .blocked) ∧
        (s.rcu.state ≠ .blocked → runs = false → t.rcu.state = .blocked ∧ t.rcu.pendingThy = none) ∧
        (s.rcu.state ≠ .blocked → runs = true → t.rcu.state = .fixed ∧ t.rcu.integ = s.rcu.integ ∧
          (s.rcu.state ≠ .fixed → t.rcu.alpha = fallbackAlpha s.straps ∧ t.rcu.blockTimer = 0 ∧
            ∃ x ∈ t.eru.queue, x.msg = ⟨.rectifier, 0, .rectRun, 1, some 4⟩)) ∧
        (s.rcu.state ≠ .fixed → t.rcu.state = .fixed → t.rcu.alpha = fallbackAlpha s.straps) ∧
        (s.sbi.blindFlag = true → s.sbi.lostRaised = false → 1000 ≤ s.sbi.blind → t.sbi.lostRaised = true ∧
          (∀ k : Fin 6, (t.breaker (breakerOf k)).tripTaken = true) ∧
          ∃ x ∈ t.eru.queue, x.msg = ⟨.bus, 0, .trip, 0, some (s.sbi.blind : Int)⟩) ∧
        (s.sbi.blindFlag = false ∨ s.sbi.lostRaised = true ∨ s.sbi.blind < 1000 →
          t.sbi = { s.sbi with commands := t.sbi.commands } ∧
          ∀ b : Fin 7, (s.breaker b).wasFitted = n.isFitted b → t.breaker b = s.breaker b) ∧ t.scu = s.scu)) ∧
  (∀ (u : InUse) (v : Verify) (s : State), s.AtRest → s.Roomy → s.GroupsAgree → s.su.inUse = some u →
    s.su.scrubFailed = true → s.su.verify = some v → v.left ≤ 1 →
    ∃ t, exec .verificationEnd s = .next t ∧ (t.su.groupRec u.group).state = .edited ∧ t.su.scrubFailed = false ∧
      t.su.verify = none ∧
      (groupCrc v.words = v.expected → firstFailure s.straps v.words = none →
        t.su.inUse = some ⟨v.group, v.words⟩ ∧ (t.su.groupRec v.group).state = .active) ∧
      (groupCrc v.words ≠ v.expected ∨ firstFailure s.straps v.words ≠ none →
        t.su.inUse = none ∧ t.su.reason = .scrub ∧ (t.su.groupRec v.group).state = .edited))

/-! ## Breaker commands -/

/-- OPEN (R129): the reply is DONE in every case. A breaker that is fitted, not OPEN and under no operation begins to
trip, its close channel released where it is still energised (R122, log 39); a close under way is cut, with CLOSE_CUT,
and the trip begins (and has its target at once where the breaker has not left OPEN, R120); a breaker that is
TRIPPING, OPEN or not fitted is left as it is but for the trip taken. The feeder's sequence is abandoned unless it is
in LOCKOUT (R151). No TRIP record and nothing else follows. OPEN ALL (R130): every feeder breaker that is fitted and
not OPEN takes a trip as by OPEN: one without an operation or CLOSING begins to trip and its close channel is
released, a close is cut with CLOSE_CUT (R122), one that is TRIPPING goes on, and its feeder's sequence is abandoned.
The others are left alone, and so is the AC breaker; the reply is DONE. CLOSE AC (R131): steps 1, 3, 4, 5, 6 and 8 of
R123 in order, the first failure being the reply; a request that passes energises channel 19 and is answered DONE.
CLEAR LATCH (R128): refused unless every channel of the breaker is OFF; otherwise every latch is cleared, with
LATCH_CLEARED and the set of latches when one was set. (Each telegram as one command: log 3.) -/
def Obligations.BreakerCommandsTripCloseAndClear : Prop :=
  (∀ (n : Byte) (b : Fin 7) (s : State), s.AtRest → s.Roomy → s.scu.work = .free → n.toNat = b.val →
    ∃ t, exec (.openBreaker n) s = .next t ∧ t.scu = s.scu.answered 4 .done [] ∧
      (t.breaker b).tripTaken = true ∧
      (s.tripReady b → t.TripBegun b ∧ t.drive (closeChannel b) = (s.drive (closeChannel b)).release) ∧
      (s.isFitted b = true → (s.breaker b).op = .closing →
        t.drive (closeChannel b) = (s.drive (closeChannel b)).release ∧ (t.drive (tripChannel b)).state = .peak ∧
        (∃ x ∈ t.eru.queue, x.msg = ⟨.breaker, b.val, .closeCut, 1, none⟩) ∧
        ((s.breaker b).position ≠ .opn → t.TripBegun b) ∧
        ((s.breaker b).position = .opn → (t.breaker b).op = .none)) ∧
      (s.isFitted b = false ∨ (s.breaker b).op = .tripping ∨
          ((s.breaker b).op = .none ∧ (s.breaker b).position = .opn) →
        t.breaker b = { s.breaker b with tripTaken := true } ∧
          t.drive (tripChannel b) = s.drive (tripChannel b) ∧ t.drive (closeChannel b) = s.drive (closeChannel b)) ∧
      t.eru.queue.take s.eru.queue.length = s.eru.queue ∧
      (∀ x ∈ t.eru.queue.drop s.eru.queue.length, x.msg.code = .closeCut ∨ x.msg.code = .counterOverflow) ∧
      (∀ k : Fin 6, breakerOf k = b → (s.seq k).state ≠ .lockout →
        t.seq k = { s.seq k with state := .idle, phase := .none, timer := 0, attempts := 0, precheck := 0 }) ∧
      (∀ k : Fin 6, breakerOf k = b → (s.seq k).state = .lockout → t.seq k = s.seq k) ∧
      (∀ k : Fin 6, breakerOf k ≠ b → t.seq k = s.seq k) ∧
      (∀ c : Fin 7, c ≠ b → t.breaker c = s.breaker c ∧ t.drive (tripChannel c) = s.drive (tripChannel c) ∧
        t.drive (closeChannel c) = s.drive (closeChannel c)) ∧
      t.sbi = s.sbi ∧ t.mu = s.mu ∧ t.fpu = s.fpu ∧ t.su = s.su ∧ t.rcu = s.rcu ∧ t.eru.buffers = s.eru.buffers) ∧
  (∀ s : State, s.AtRest → s.Roomy → s.scu.work = .free →
    ∃ t, exec .openAll s = .next t ∧ t.scu = s.scu.answered 4 .done [] ∧
      (∀ k : Fin 6, s.isFitted (breakerOf k) = true → s.breakerOpen k = false →
        (t.breaker (breakerOf k)).tripTaken = true ∧
        ((s.breaker (breakerOf k)).op ≠ .tripping → t.TripBegun (breakerOf k) ∧
          t.drive (closeChannel (breakerOf k)) = (s.drive (closeChannel (breakerOf k))).release) ∧
        ((s.breaker (breakerOf k)).op = .closing →
          ∃ x ∈ t.eru.queue, x.msg = ⟨.breaker, k.val, .closeCut, 1, none⟩) ∧
        ((s.breaker (breakerOf k)).op = .tripping → t.breaker (breakerOf k) =
            { s.breaker (breakerOf k) with tripTaken := true } ∧
          t.drive (tripChannel (breakerOf k)) = s.drive (tripChannel (breakerOf k))) ∧
        t.seq k = if (s.seq k).state = .lockout then s.seq k else
          { s.seq k with state := .idle, phase := .none, timer := 0, attempts := 0, precheck := 0 }) ∧
      (∀ k : Fin 6, s.isFitted (breakerOf k) = false ∨ s.breakerOpen k = true →
        t.breaker (breakerOf k) = s.breaker (breakerOf k) ∧ t.seq k = s.seq k ∧
          t.drive (tripChannel (breakerOf k)) = s.drive (tripChannel (breakerOf k)) ∧
          t.drive (closeChannel (breakerOf k)) = s.drive (closeChannel (breakerOf k))) ∧
      t.breaker acBreaker = s.breaker acBreaker ∧ t.drive (tripChannel acBreaker) = s.drive (tripChannel acBreaker) ∧
      t.sbi = s.sbi ∧ t.mu = s.mu ∧ t.fpu = s.fpu ∧ t.su = s.su ∧ t.rcu = s.rcu ∧ t.eru.buffers = s.eru.buffers) ∧
  (∀ s : State, s.AtRest → s.scu.work = .free →
    exec .closeAc s = .next
      (if (s.driveRec 19).enabled = false then s.onScu fun u => u.answered 4 .refusedState []
       else if (s.drive 18).state ≠ .off ∨ (s.drive 19).state ≠ .off then s.onScu fun u => u.answered 4 .refusedState []
       else if (s.drive 19).cool ≠ 0 then s.onScu fun u => u.answered 4 .cooling []
       else if (s.breaker 6).latches.any = true then s.onScu fun u => u.answered 4 .refusedInterlock []
       else if (s.breaker 6).position ≠ .opn then s.onScu fun u => u.answered 4 .refusedState []
       else if (s.breaker 6).tripTaken = true then s.onScu fun u => u.answered 4 .refusedState []
       else ((s.onScu fun u => u.answered 4 .done []).onDrive 19 fun d =>
         { d with
           state := .peak, tPeak := (s.driveRec 19).tPeak, dHold := (s.driveRec 19).dHold
           tHold := (s.driveRec 19).tHold, tCool := (s.driveRec 19).tCool, timer := 0, cool := 0 }).onBreaker 6 fun r =>
         { r with op := .closing, count := 0, moved := true })) ∧
  (∀ (n : Byte) (b : Fin 7) (s : State), s.AtRest → s.Roomy → s.scu.work = .free → n.toNat = b.val →
    (s.allOff b = false → exec (.clearLatch n) s = .next (s.onScu fun u => u.answered 4 .refusedState [])) ∧
    (s.allOff b = true → ∃ t, exec (.clearLatch n) s = .next t ∧
      Logged (if (s.breaker b).latches.any then
          [⟨.breaker, b.val, .latchCleared, 1, some (((s.breaker b).latches.code : Nat) : Int)⟩] else [])
        ((s.onScu fun u => u.answered 4 .done []).onBreaker b fun r => { r with latches := Latches.none }) t))

/-! ## Commands of the bus, the feeders, the rectifier, the recorder, the counters, and restart -/

/-- CLOSE FEEDER (R152): a feeder in service whose sequence is IDLE or in LOCKOUT enters PRECHECK with the attempt count
at its maximum, with LOCKOUT_RESET value 2 from LOCKOUT; any other is refused. RESET LOCKOUT (R153): a sequence in
LOCKOUT enters IDLE with attempt count 0, phase NONE and timers 0, its reason kept, with LOCKOUT_RESET value 1,
whatever the feeder's service state; in any other state it is refused. SET OUTPUT (R22): operands out of range and a
bit that a feeder owns are refused with BAD_VALUE and change nothing; a bit that the gateway owns takes the value,
without an event, and the next frame in which the device drives the bus carries it in the word's slot. FEEDER SERVICE
(R63): flag 0 sets the override of the feeder to OUT, flag 1 clears it; the reply is DONE and nothing else changes; a
feeder is in service when its record has it so and its override is clear. SETPOINT STEP (R174): in fallback operation
refused; with a group in use the setpoint in force moves by the step, clamped to the group's limits, in every state of
the rectifier, with SETPOINT and its value. The counter commands (R203, R204), each answered DONE in every bank state
and without an event: FREEZE and UNFREEZE set the bank's state; RESET clears the value, S, the overflow flag and the
reclose block of the counters of its mask, and keeps their previous condition; PRELOAD sets the value and clears S,
the flag and the block kept. Nothing else changes. (Each telegram as one command: log 3.) -/
def Obligations.FeederBusSetpointAndCounterCommands : Prop :=
  (∀ (n : Byte) (k : Fin 6) (s : State), s.AtRest → s.Roomy → s.scu.work = .free → n.toNat = k.val →
    (s.inService k = true → ((s.seq k).state = .idle ∨ (s.seq k).state = .lockout) →
      ∃ t, exec (.closeFeeder n) s = .next t ∧
        Logged (if (s.seq k).state = .lockout then [⟨.feeder, k.val, .lockoutReset, 1, some 2⟩] else [])
          ((s.onScu fun u => u.answered 4 .done []).onSeq k fun q =>
            { q with
              state := .precheck, phase := .none, timer := 0, precheck := 0, wait := .none
              attempts := (s.recloseRec k).attempts }) t) ∧
    (s.inService k = false ∨ ((s.seq k).state ≠ .idle ∧ (s.seq k).state ≠ .lockout) →
      exec (.closeFeeder n) s = .next (s.onScu fun u => u.answered 4 .refusedState [])) ∧
    ((s.seq k).state = .lockout → ∃ t, exec (.resetLockout n) s = .next t ∧
      Logged [⟨.feeder, k.val, .lockoutReset, 1, some 1⟩]
        ((s.onScu fun u => u.answered 4 .done []).onSeq k fun q =>
          { q with state := .idle, attempts := 0, phase := .none, timer := 0, precheck := 0 }) t) ∧
    ((s.seq k).state ≠ .lockout →
      exec (.resetLockout n) s = .next (s.onScu fun u => u.answered 4 .refusedState []))) ∧
  (∀ (w b v : Byte) (s : State), s.AtRest → s.scu.work = .free →
    (15 < w.toNat ∨ 15 < b.toNat ∨ 1 < v.toNat →
      exec (.setOutput w b v) s = .next (s.onScu fun u => u.answered 4 .badValue [])) ∧
    (w.toNat ≤ 15 → b.toNat ≤ 15 → v.toNat ≤ 1 → (bitOwner s.straps s.su.inUse w.toNat b.toNat).isSome = true →
      exec (.setOutput w b v) s = .next (s.onScu fun u => u.answered 4 .badValue [])) ∧
    (w.toNat ≤ 15 → b.toNat ≤ 15 → v.toNat ≤ 1 → bitOwner s.straps s.su.inUse w.toNat b.toNat = none →
      ∃ t, exec (.setOutput w b v) s = .next t ∧
        t = ((s.onScu fun u => u.answered 4 .done []).onSbi fun x => { x with commands := t.sbi.commands }) ∧
        (∀ (i : Fin 16) (j : Nat), j < 16 → t.sbi.commands[i].getLsbD j =
          if i.val = w.toNat ∧ j = b.toNat then v == 1 else s.sbi.commands[i].getLsbD j) ∧
        ∀ (inp : FrameInput) (u : State) (i : Fin 48), s.su.verify = none → s.su.scrubFailed = false →
          exec (.frame inp) t = .next u → (u.sbi.sync = .run ∨ u.sbi.sync = .holdover) → 1 ≤ i.val → i.val ≤ 45 →
          s.sbi.map[i].kind = 3 → s.sbi.map[i].target.toNat = w.toNat →
          ∃ x, u.sbi.sent[i] = some x ∧ x.data.getLsbD b.toNat = (v == 1))) ∧
  (∀ (n flag : Byte) (k : Fin 6) (s : State), s.AtRest → s.scu.work = .free → n.toNat = k.val → flag.toNat ≤ 1 →
    ∃ t, exec (.feederService n flag) s = .next t ∧
      t = ((s.onScu fun u => u.answered 4 .done []).onFeeder k fun f => { f with serviceOut := flag == 0 }) ∧
      t.inService k = ((s.feederRec k).inService && flag == 1)) ∧
  (∀ (change : Word) (s : State), s.AtRest → s.Roomy → s.scu.work = .free →
    change.toInt ∈ ([5, 10, 20, -5, -10, -20] : List Int) →
    (s.su.inUse = none → exec (.setpointStep change) s = .next (s.onScu fun u => u.answered 4 .refusedState [])) ∧
    (∀ g, s.su.inUse = some g → s.rect.uSetMin ≤ s.rect.uSetMax →
      ∃ t v, exec (.setpointStep change) s = .next t ∧ s.rect.uSetMin ≤ v ∧ v ≤ s.rect.uSetMax ∧
        (((s.rect.uSetMin : Int) ≤ s.rcu.uset + change.toInt ∧ (s.rcu.uset + change.toInt : Int) ≤ s.rect.uSetMax) →
          (v : Int) = s.rcu.uset + change.toInt) ∧
        ((s.rcu.uset + change.toInt : Int) < s.rect.uSetMin → v = s.rect.uSetMin) ∧
        ((s.rect.uSetMax : Int) < s.rcu.uset + change.toInt → v = s.rect.uSetMax) ∧
        Logged [⟨.rectifier, 0, .setpoint, 1, some (v : Int)⟩]
          ((s.onScu fun u => u.answered 4 .done []).onRcu fun r => { r with uset := v }) t)) ∧
  (∀ s : State, s.AtRest → s.scu.work = .free →
    exec .counterFreeze s = .next ((s.onScu fun u => u.answered 4 .done []).onCb fun c => { c with frozen := true }) ∧
    exec .counterUnfreeze s = .next ((s.onScu fun u => u.answered 4 .done []).onCb fun c => { c with frozen := false }) ∧
    (∀ mask : Word, ∃ t, exec (.counterReset mask) s = .next t ∧
      t = ((s.onScu fun u => u.answered 4 .done []).onCb fun c => { c with counters := t.cb.counters }) ∧
      ∀ n : Fin 16, t.cb.counters[n] = if mask.getLsbD n.val then
        { s.cb.counters[n] with value := 0, sub := 0, overflow := false, block := false } else s.cb.counters[n]) ∧
    (∀ (b : Byte) (v : BitVec 48) (n : Fin 16), b.toNat = n.val → v.toNat < 2 ^ 40 →
      exec (.counterPreload b v) s = .next ((s.onScu fun u => u.answered 4 .done []).onCb fun c =>
        { c with counters := c.counters.set n { c.counters[n] with value := v.toNat, sub := 0 } })))

/-- TRIGGER RECORD (R191): the buffer in CAPTURE enters POST with its pre-trigger entries, source COMMAND and the time
of day; a trigger during POST does nothing; with no buffer to take it RECORD_MISSED is given. The reply is DONE.
RECORD_HELD (R190, R192): the buffer in POST writes its last entry and is HELD with the number of its record; the
event gives its pre-trigger count; the other buffer enters CAPTURE with the stored programme when it is FREE, and
capture stops when it is HELD. Nothing else changes. RELEASE RECORD (R193): a HELD buffer becomes FREE; where capture
had stopped, the flag is cleared and the buffer enters CAPTURE with the stored programme. A buffer that is not HELD is
refused. No event. (Each row as one command: log 1; each telegram: log 3.) -/
def Obligations.RecordsAreTriggeredHeldAndReleased : Prop :=
  (∀ s : State, s.AtRest → s.Roomy → s.scu.work = .free →
     (∀ i : Fin 2, s.eru.buffers[i].state = .capture → s.eru.buffers[otherBuffer i].state ≠ .capture →
       exec .triggerRecord s = .next ((s.onScu fun u => u.answered 4 .done []).onBuffer i fun b =>
         { b with
           state := .post, source := .command, time := s.scu.clock
           pre := min b.written (2048 * b.programme[9].toNat / 100)
           post := 2048 - min b.written (2048 * b.programme[9].toNat / 100) })) ∧
     ((∀ i : Fin 2, s.eru.buffers[i].state ≠ .capture) → (∃ i : Fin 2, s.eru.buffers[i].state = .post) →
       exec .triggerRecord s = .next (s.onScu fun u => u.answered 4 .done [])) ∧
     ((∀ i : Fin 2, s.eru.buffers[i].state ≠ .capture ∧ s.eru.buffers[i].state ≠ .post) →
       ∃ t, exec .triggerRecord s = .next t ∧
         Logged [⟨.recorder, 0, .recordMissed, 2, none⟩] (s.onScu fun u => u.answered 4 .done []) t)) ∧
  (∀ (s : State) (i : Fin 2), s.AtRest → s.Roomy → s.eru.buffers[i].state = .post → s.eru.buffers[i].post = 1 →
     s.eru.buffers[i].decim = 0 → s.eru.buffers[i].write < 2048 →
     (s.eru.buffers[otherBuffer i].state = .free ∨ s.eru.buffers[otherBuffer i].state = .held) →
     ∃ t, exec .recordHeld s = .next t ∧
       t.eru.buffers[i] = { s.eru.buffers[i] with
         state := .held
         ring := Vector.ofFn fun j : Fin 2048 =>
           if j.val = s.eru.buffers[i].write then entryOf s s.eru.buffers[i].programme else s.eru.buffers[i].ring[j]
         write := (s.eru.buffers[i].write + 1) % 2048
         written := min 2048 (s.eru.buffers[i].written + 1)
         decim := if s.eru.buffers[i].programme[8].toNat ≤ 1 then 0 else 1
         post := 0
         number := s.eru.heldCount } ∧
       (s.eru.buffers[otherBuffer i].state = .free →
         t.eru.buffers[otherBuffer i] = { s.eru.buffers[otherBuffer i] with
           state := .capture, programme := s.eru.programme, write := 0, written := 0, decim := 0, pre := 0, post := 0
           source := .none } ∧ t.eru.stopped = s.eru.stopped) ∧
       (s.eru.buffers[otherBuffer i].state = .held →
         t.eru.buffers[otherBuffer i] = s.eru.buffers[otherBuffer i] ∧ t.eru.stopped = true) ∧
       Logged [⟨.recorder, i.val, .recordHeld, 1, some (s.eru.buffers[i].pre : Int)⟩]
         (s.onEru fun e => { e with
           buffers := t.eru.buffers, stopped := t.eru.stopped, heldCount := (e.heldCount + 1) % 65536 }) t) ∧
  (∀ (n : Byte) (i : Fin 2) (s : State), s.AtRest → s.scu.work = .free → n.toNat = i.val →
     (s.eru.buffers[i].state ≠ .held →
       exec (.releaseRecord n) s = .next (s.onScu fun u => u.answered 4 .refusedState [])) ∧
     (s.eru.buffers[i].state = .held → s.eru.stopped = false →
       exec (.releaseRecord n) s = .next ((s.onScu fun u => u.answered 4 .done []).onBuffer i fun b =>
         { b with state := .free })) ∧
     (s.eru.buffers[i].state = .held → s.eru.stopped = true →
       exec (.releaseRecord n) s = .next (((s.onScu fun u => u.answered 4 .done []).onBuffer i fun b =>
         { b with
           state := .capture, programme := s.eru.programme, write := 0, written := 0, decim := 0, pre := 0, post := 0
           source := .none }).onEru fun e => { e with stopped := false })))

/-- RESTART (R40, R87, R133, R156, R181, R187): no reply; the assembly is EMPTY, the work state FREE and ABORT due;
WT, the clock and the time-set flag are kept; closes and tests are withdrawn and trips go on; every sequence under way
is in LOCKOUT; the rectifier is BLOCKED; START with value 1 is in the queue; the bus, the channels, the protection,
the groups, the recorder and the counters' programme are kept. (Each telegram as one command: log 3.) -/
def Obligations.RestartRestartsEachBlock : Prop :=
  ∀ s : State, s.AtRest → s.Roomy → s.scu.work = .free →
    ∃ t, exec .restart s = .next t ∧
      t.scu = { s.scu with
        assembly := .empty, buffer := [], gap := 0, work := .free, job := none, reply := none, pair := none, up := none
        abortCount := 2, lastWt := none, level := true } ∧
      (∃ x ∈ t.eru.queue, x.msg = ⟨.service, 0, .start, 1, some 1⟩ ∧ x.time = s.scu.clock) ∧
      (∀ x ∈ s.eru.queue, ∃ y ∈ t.eru.queue, y.seq = x.seq ∧ y.msg = x.msg ∧ y.carried = false) ∧
      (∀ b : Fin 7, (s.breaker b).op ≠ .closing → t.breaker b = s.breaker b) ∧
      (∀ b : Fin 7, (s.breaker b).op = .closing →
        t.breaker b = { s.breaker b with op := .none, count := 0, moved := false }) ∧
      (∀ c : Fin 20, t.drive c = if coilKind c = .trip then s.drive c else (s.drive c).release) ∧
      (∀ k : Fin 6, (s.seq k).state = .idle ∨ (s.seq k).state = .lockout → t.seq k = s.seq k) ∧
      (∀ k : Fin 6, (s.seq k).state ≠ .idle → (s.seq k).state ≠ .lockout →
        t.seq k = { s.seq k with state := .lockout, phase := .none, timer := 0, reason := .restart }) ∧
      t.rcu.state = .blocked ∧ (s.rcu.state ≠ .blocked → t.rcu.pendingThy = none ∧ t.rcu.integ = 0 ∧
        ∃ x ∈ t.eru.queue, x.msg = ⟨.rectifier, 0, .rectBlocked, 2, some 4⟩) ∧ t.rcu.sync = s.rcu.sync ∧ t.rcu.uset = s.rcu.uset ∧
      t.rcu.chopper = s.rcu.chopper ∧ t.rcu.ovl = s.rcu.ovl ∧ t.rcu.ovp = s.rcu.ovp ∧
      t.sbi = s.sbi ∧ t.mu = s.mu ∧ t.fpu = s.fpu ∧ t.su = s.su ∧ t.eru.buffers = s.eru.buffers ∧
      t.eru.programme = s.eru.programme ∧ t.cb.programme = s.cb.programme

/-! ## Measurement -/

/-- Scaling (R51): the value is (raw − offset) × gain / 4096 truncated toward zero, at most 1,048,544 in magnitude for
every raw value, offset and gain that the words can hold; gain 4096 and offset 0 carry the raw value itself. -/
def Obligations.ScalingTruncatesTowardZero : Prop :=
  ∀ (v : ChanView) (raw : Int), -32767 ≤ raw → raw ≤ 32767 → -32768 ≤ v.offset → v.offset ≤ 32767 → v.gain ≤ 65535 →
    (0 ≤ (raw - v.offset) * v.gain → 0 ≤ scale v raw ∧ 4096 * scale v raw ≤ (raw - v.offset) * v.gain ∧
      (raw - v.offset) * v.gain < 4096 * (scale v raw + 1)) ∧
    ((raw - v.offset) * v.gain < 0 → scale v raw ≤ 0 ∧ (raw - v.offset) * v.gain ≤ 4096 * scale v raw ∧
      4096 * (scale v raw - 1) < (raw - v.offset) * v.gain) ∧
    -65534 ≤ raw - v.offset ∧ raw - v.offset ≤ 65535 ∧
    -1048544 ≤ scale v raw ∧ scale v raw ≤ 1048544 ∧ (v.gain = 4096 → v.offset = 0 → scale v raw = raw)

/-- The clamp (R52): the stage result of a raw value present is the scaled value, VALID, where its magnitude is less
than the limit, and otherwise the limit with the sign of the value, SATURATED; a change of the limit alone leaves a
channel's record as it is, without forcing it INVALID. -/
def Obligations.ClampSaturatesAtTheLimit : Prop :=
  ∀ (v : ChanView) (ch : Channel) (raw : Int), v.kind ≠ 0 → 1 ≤ v.limit → v.limit ≤ 65535 →
    ((scale v raw).natAbs < v.limit → stageResult v ch (.present raw) = ⟨scale v raw, .valid⟩) ∧
    (v.limit ≤ scale v raw → stageResult v ch (.present raw) = ⟨v.limit, .saturated⟩) ∧
    (scale v raw ≤ -(v.limit : Int) → stageResult v ch (.present raw) = ⟨-(v.limit : Int), .saturated⟩) ∧
    -(v.limit : Int) ≤ (stageResult v ch (.present raw)).value ∧ (stageResult v ch (.present raw)).value ≤ v.limit ∧
    (scale v raw = 0 → (stageResult v ch (.present raw)).quality = .valid) ∧
    ∀ l, ch.switch v { v with limit := l } = ch

/-- HOLD_EXPIRED (R54, R56, R57): an invalid raw value with the hold allowance used up gives the last good value with
quality INVALID as the stage result, which enters the delay line. Nothing of another channel or block changes.
FILL_COMPLETE (R57): the raw value whose stage result is VALID at a fill count of 1 completes the fill, and unless a
forced count still stands the output is the delayed entry with its own quality. Nothing of another channel or block
changes. BLANK_END (R58): the last frame of a forced INVALID count is over, and nothing else changes. (Each row as one
command: log 1; neither row asks for a sync state or a source slot: log 43; a count above the allowance is not due: log
48.) -/
def Obligations.ChannelCountsRunOut : Prop :=
  (∀ (s : State) (c : Fin 32), s.AtRest → (s.chan c).kind ≠ 0 → (s.chan c).allowance ≤ 3 →
     s.mu[c].hold = (s.chan c).allowance →
     ∃ t, exec (.holdExpired c) s = .next t ∧ t = s.onMu (fun m => m.set c t.mu[c]) ∧
       t.mu[c].hold = s.mu[c].hold + 1 ∧ t.mu[c].lastGood = s.mu[c].lastGood ∧
       t.mu[c].line[0] = ⟨s.mu[c].lastGood, .invalid⟩ ∧
       (∀ (j : Nat) (h : j + 1 < 8), t.mu[c].line[j + 1] = s.mu[c].line[j]) ∧
       t.mu[c].fill = (if s.mu[c].fill = 0 then 0 else (s.chan c).delay + 1) ∧
       t.mu[c].blank = s.mu[c].blank - 1 ∧ t.mu[c].prevOut = s.mu[c].out) ∧
  (∀ (s : State) (c : Fin 32) (raw : Word) (x : Int), s.AtRest → s.mu[c].fill = 1 → raw ≠ 0x8000 →
     stageResult (s.chan c) s.mu[c] (.present raw.toInt) = ⟨x, .valid⟩ →
     ∃ t, exec (.fillComplete c raw) s = .next t ∧ t = s.onMu (fun m => m.set c t.mu[c]) ∧
       t.mu[c].fill = 0 ∧ t.mu[c].lastGood = x ∧ t.mu[c].hold = 0 ∧ t.mu[c].line[0] = ⟨x, .valid⟩ ∧
       (∀ (j : Nat) (h : j + 1 < 8), t.mu[c].line[j + 1] = s.mu[c].line[j]) ∧ t.mu[c].prevOut = s.mu[c].out ∧
       ∀ (h : (s.chan c).delay < 8), s.mu[c].blank = 0 → t.mu[c].out = t.mu[c].line[(s.chan c).delay]) ∧
  (∀ (s : State) (c : Fin 32), s.AtRest → s.mu[c].blank = 1 →
     exec (.blankEnd c) s = .next (s.onMu fun m => m.set c { m[c] with blank := 0 }))

/-! ## Feeder protection -/

/-- OC_TRIP (R67, R68): an in-service feeder whose frame counts and brings the count to N_oc is tripped, and its OC
row is raised once with the current. RR_TRIP (R71): a RISING element whose rise has reached ΔI_set not before T_min is
TRIPPED, and its RR row is raised with the current. UV_PICKUP (R80): a VALID or HELD line voltage below U_uv for the
T_uv-th frame picks the element up, with UV_PICKUP and the voltage; the UV row is raised where the record has the trip
enabled, and not where it has not. The trips of a row release the close channels of their breakers (log 39). (Each row
as one command: log 1.) -/
def Obligations.FeederElementsTrip : Prop :=
  (∀ (s : State) (k : Fin 6), s.AtRest → s.Roomy → s.inService k = true → (s.feeder k).ocTripped = false →
     (((s.currentOut k).quality = .valid ∨ (s.currentOut k).quality = .held) ∧
         ((s.feederRec k).iOc : Int) ≤ (s.currentOut k).value ∨
       (s.currentOut k).quality = .saturated ∧ 0 < (s.currentOut k).value) →
     (s.feederRec k).nOc ≤ (s.feeder k).ocCount + 1 →
     ∃ t, exec (.ocTrip k) s = .next t ∧ RowTaken ⟨6 * k.val, by omega⟩ (s.currentOut k).value
       (s.onFeeder k fun f => { f with ocCount := (s.feederRec k).nOc, ocTripped := true }) t) ∧
  (∀ (s : State) (k : Fin 6), s.AtRest → s.Roomy → s.inService k = true → (s.feederRec k).full = true →
     s.breakerOpen k = false → (s.feeder k).rr = .rising →
     ((s.feeder k).history[0].quality = .valid ∨ (s.feeder k).history[0].quality = .saturated) →
     ((s.feederRec k).dISet : Int) ≤ (s.feeder k).history[0].value - (s.feeder k).i0 →
     (s.feederRec k).tMin ≤ (s.feeder k).rise + 1 →
     ∃ t, exec (.rrTrip k) s = .next t ∧ RowTaken ⟨6 * k.val + 1, by omega⟩ (s.currentOut k).value
       (s.onFeeder k fun f => { f with rr := .tripped, rise := f.rise + 1, resetCount := 0 }) t) ∧
  (∀ (s : State) (k : Fin 6), s.AtRest → s.Roomy → s.inService k = true → (s.feederRec k).full = true →
     (s.feeder k).uvPicked = false → ((s.voltageOut k).quality = .valid ∨ (s.voltageOut k).quality = .held) →
     (s.voltageOut k).value < (s.feederRec k).uvLevel → (s.feederRec k).uvTime ≤ (s.feeder k).uvTimer + 1 →
     ∃ t, exec (.uvPickup k) s = .next t ∧
       (∃ x ∈ t.eru.queue, x.msg = ⟨.feeder, k.val, .uvPickup, 2, some (s.voltageOut k).value⟩) ∧
       ((s.feederRec k).uvTrip = false →
         Logged [⟨.feeder, k.val, .uvPickup, 2, some (s.voltageOut k).value⟩]
           (s.onFeeder k fun f => { f with uvTimer := (s.feederRec k).uvTime, uvPicked := true }) t) ∧
       ((s.feederRec k).uvTrip = true → RowTaken ⟨6 * k.val + 3, by omega⟩ (s.currentOut k).value
         (s.onFeeder k fun f => { f with uvTimer := (s.feederRec k).uvTime, uvPicked := true }) t))

/-- RISE_ENDED (R71): a rise without a trip ends at the third end count or at T_max, with the event and the rise.
RR_RESET (R72): the tenth frame below I_reset returns a TRIPPED element to IDLE. Nothing else changes. CLOSE_BLOCK_END
(R74): the last of the frames is over, and nothing else changes. INTERTRIP_OUT_RELEASE (R110): the 200th frame in a
row with the breaker OPEN ends the hold and clears the feeder's intertrip-out bit; no other bit and nothing else
changes. (Each row as one command: log 1.) -/
def Obligations.FeederCountsRunOut : Prop :=
  (∀ (s : State) (k : Fin 6), s.AtRest → s.Roomy → s.inService k = true → (s.feederRec k).full = true →
     s.breakerOpen k = false →
     ((s.feeder k).history[0].quality = .valid ∨ (s.feeder k).history[0].quality = .saturated) →
     ((s.feeder k).rr = .rising →
       ¬ (((s.feederRec k).dISet : Int) ≤ (s.feeder k).history[0].value - (s.feeder k).i0 ∧
         (s.feederRec k).tMin ≤ (s.feeder k).rise + 1) →
       ((s.feeder k).rise + 1 = (s.feederRec k).tMax ∨
         (s.feeder k).endCount = 2 ∧ ∃ r, rateOf (s.feeder k).history = some r ∧ r < (s.feederRec k).sHold) →
       ∃ t, exec (.riseEnded k) s = .next t ∧
         Logged [⟨.feeder, k.val, .riseEnded, 3, some ((s.feeder k).history[0].value - (s.feeder k).i0)⟩]
           (s.onFeeder k fun f => { f with rr := .idle, rise := f.rise + 1, endCount := 0 }) t) ∧
     ((s.feeder k).rr = .tripped → (s.feeder k).resetCount = 9 →
       (s.feeder k).history[0].value < (s.feederRec k).iReset →
       exec (.rrReset k) s = .next (s.onFeeder k fun f => { f with rr := .idle, resetCount := 0 }))) ∧
  (∀ (s : State) (k : Fin 6), s.AtRest → (s.feeder k).closeBlock = 1 →
     exec (.closeBlockEnd k) s = .next (s.onFeeder k fun f => { f with closeBlock := 0 })) ∧
  (∀ (s : State) (k : Fin 6), s.AtRest → s.su.holds[k] = ⟨true, 199⟩ → s.breakerOpen k = true →
     ∃ t, exec (.intertripOutRelease k) s = .next t ∧
       t = ((s.onSbi fun b => { b with commands := t.sbi.commands }).onSu fun u =>
         { u with holds := u.holds.set k ⟨false, 0⟩ }) ∧
       ∀ (w : Fin 16) (j : Nat), j < 16 → t.sbi.commands[w].getLsbD j =
         if w.val = (s.feederRec k).outWord ∧ j = (s.feederRec k).outBit then false else s.sbi.commands[w].getLsbD j)

/-- THERMAL_BLOCK_END (R75, R76, R77): with the last frame's square in the sum, every feeder's θ moves toward the mean
square by the fraction 1 / (100 τ), truncated toward zero; the trip and alarm flags and the permit follow θ by their
levels and their reset levels; the sum and the block count start again; a feeder that trips takes its TH row. (Each
row as one command: log 1.) -/
def Obligations.ThermalBlockUpdatesEveryImage : Prop :=
  ∀ s : State, s.AtRest → s.Roomy → s.fpu.thermalCount = 99 →
    ∃ t, exec .thermalBlockEnd s = .next t ∧ t.fpu.thermalCount = 0 ∧
      (∀ (k : Fin 6) (q th trip alarm permit : Nat),
        q = ((s.feeder k).sum + (s.currentOut k).value.natAbs * (s.currentOut k).value.natAbs) / 100 →
        (th : Int) = (s.feeder k).theta + ((q : Int) - (s.feeder k).theta).tdiv (100 * (s.feederRec k).tau) →
        trip = (s.feederRec k).iTh * (s.feederRec k).iTh → alarm = trip * (s.feederRec k).alarmPct / 100 →
        permit = trip * (s.feederRec k).reclosePct / 100 →
        t.feeder k = { s.feeder k with
          theta := th
          sum := 0
          thTripped := if (s.feeder k).thTripped then decide (permit ≤ th) else decide (trip ≤ th)
          thAlarm := if (s.feeder k).thAlarm then decide (alarm * 9 / 10 ≤ th) else decide (alarm ≤ th)
          permit := decide (th < permit) }) ∧
      (∀ (k : Fin 6) (b : Fin 7), (s.feeder k).thTripped = false → (t.feeder k).thTripped = true →
        (s.matrixRow ⟨6 * k.val + 2, by omega⟩).trip.getLsbD b.val = true → (t.breaker b).tripTaken = true) ∧
      (∀ k : Fin 6, (s.feeder k).thTripped = false → (t.feeder k).thTripped = true →
        ∃ x ∈ t.eru.queue, x.msg.code = .trip ∧ x.msg.kind = .feeder ∧ x.msg.index = k.val ∧
          x.msg.value = some (s.currentOut k).value) ∧
      t.mu = s.mu ∧ t.scu = s.scu ∧ t.straps = s.straps

/-- FRAME and the elements of a feeder. Intertrip-in is formed from the record and the indication word (R66). OC counts
or breaks and trips at N_oc, and UV times, picks up and drops out, where the element is evaluated; out of service they
stay as they are (R64, R67, R68, R80). The square of the frame's current enters the thermal sum; in the 100th frame of
a block θ, flags and permit are updated and the sum and the block count start again, in any other they stay (R75 to
R78). The close block count falls by 1, from 20 in a frame whose close is taken (R74). A row of the feeder that the
frame raises trips the breakers of its mask by the matrix in use (R82, R107). -/
def Obligations.FrameRunsTheFeederElements : Prop :=
  ∀ (s t : State) (inp : FrameInput) (k : Fin 6) (v : FeederView) (f g : Feeder) (i u : Output) (counts : Bool),
    s.Plain → exec (.frame inp) s = .next t → v = s.feederRec k → f = s.feeder k → g = t.feeder k →
    i = t.currentOut k → u = t.voltageOut k →
    (counts = true ↔ ((i.quality = .valid ∨ i.quality = .held) ∧ (v.iOc : Int) ≤ i.value) ∨
      (i.quality = .saturated ∧ 0 < i.value)) →
    (g.intertrip = true ↔ v.inPresent = true ∧ ∃ w : Fin 16, w.val = v.inWord ∧ t.sbi.words[w].valid = true ∧
      t.sbi.words[w].agreed.getLsbD v.inBit = true) ∧
    (s.inService k = false → g.ocCount = f.ocCount ∧ g.ocTripped = f.ocTripped) ∧
    (s.inService k = true → counts = true → g.ocCount = min v.nOc (f.ocCount + 1) ∧
      g.ocTripped = (f.ocTripped || decide (v.nOc ≤ f.ocCount + 1))) ∧
    (s.inService k = true → counts = false → g.ocCount = 0 ∧ g.ocTripped = false) ∧
    (s.inService k = false ∨ v.full = false ∨ u.quality = .invalid ∨ (u.quality = .saturated ∧ u.value < v.uvLevel) →
      g.uvTimer = f.uvTimer ∧ g.uvPicked = f.uvPicked) ∧
    (s.inService k = true → v.full = true →
      (u.quality ≠ .invalid → (v.uvLevel : Int) ≤ u.value → g.uvTimer = 0 ∧ g.uvPicked = false) ∧
      (u.quality = .valid ∨ u.quality = .held → u.value < v.uvLevel →
        g.uvTimer = min v.uvTime (f.uvTimer + 1) ∧
        g.uvPicked = (f.uvPicked || decide (v.uvTime ≤ f.uvTimer + 1)))) ∧
    (s.fpu.thermalCount < 99 → t.fpu.thermalCount = s.fpu.thermalCount + 1 ∧
      g.sum = f.sum + i.value.natAbs * i.value.natAbs ∧ g.theta = f.theta ∧ g.thTripped = f.thTripped ∧
      g.thAlarm = f.thAlarm ∧ g.permit = f.permit) ∧
    (99 ≤ s.fpu.thermalCount → t.fpu.thermalCount = 0 ∧ g.sum = 0 ∧ ∀ q th trip alarm permit : Nat,
      q = (f.sum + i.value.natAbs * i.value.natAbs) / 100 →
      (th : Int) = f.theta + ((q : Int) - f.theta).tdiv (100 * v.tau) → trip = v.iTh * v.iTh →
      alarm = trip * v.alarmPct / 100 → permit = trip * v.reclosePct / 100 →
      g.theta = th ∧ g.thTripped = (if f.thTripped then decide (permit ≤ th) else decide (trip ≤ th)) ∧
      g.thAlarm = (if f.thAlarm then decide (alarm * 9 / 10 ≤ th) else decide (alarm ≤ th)) ∧
      g.permit = decide (th < permit)) ∧
    g.closeBlock = (if (t.breaker (breakerOf k)).op = .closing ∧ (t.breaker (breakerOf k)).count = 0 then 19
      else f.closeBlock - 1) ∧
    ∀ (e : FeederRow) (b : Fin 7), rowSeen s t k e = true →
      (s.matrixRow (feederRow k e)).trip.getLsbD b.val = true → (t.breaker b).tripTaken = true

/-- FRAME and the rate-of-rise element of a feeder. The current enters the history, the oldest entry falls out (R69).
An element that is not evaluated keeps its state (R62, R64). The breaker OPEN sets it to IDLE (R74), also in a frame
with a HELD current (log 42). A HELD current freezes it, an INVALID one abandons a rise and clears the reset count
(R73). Otherwise: IDLE starts a rise at an available rate of S_start or more, unless the close block holds it (R70,
R74); RISING trips, ends or goes on by the four steps of R71; TRIPPED counts the frames below I_reset and returns to
IDLE at the tenth (R72). The rate is 5/2 of the rise over four frames, truncated toward zero, available where both ends
are VALID or SATURATED (R69). -/
def Obligations.FrameRunsTheRateOfRise : Prop :=
  ∀ (s t : State) (inp : FrameInput) (k : Fin 6) (v : FeederView) (f g : Feeder) (i old : Output) (rate : Option Int),
    s.Plain → exec (.frame inp) s = .next t → v = s.feederRec k → f = s.feeder k → g = t.feeder k →
    i = t.currentOut k → old = f.history[3] →
    rate = (if (i.quality = .valid ∨ i.quality = .saturated) ∧ (old.quality = .valid ∨ old.quality = .saturated) then
      some ((5 * (i.value - old.value)).tdiv 2) else none) →
    (g.history[0] = i ∧ ∀ (j : Nat) (h : j + 1 < 5), g.history[j + 1] = f.history[j]) ∧
    (s.inService k = false ∨ v.full = false →
      g.rr = f.rr ∧ g.i0 = f.i0 ∧ g.rise = f.rise ∧ g.endCount = f.endCount ∧ g.resetCount = f.resetCount) ∧
    (s.inService k = true → v.full = true → t.breakerOpen k = true →
      g.rr = .idle ∧ g.i0 = f.i0 ∧ g.rise = f.rise ∧ g.endCount = 0 ∧ g.resetCount = 0) ∧
    (s.inService k = true → v.full = true → t.breakerOpen k = false →
      (i.quality = .held →
        g.rr = f.rr ∧ g.i0 = f.i0 ∧ g.rise = f.rise ∧ g.endCount = f.endCount ∧ g.resetCount = f.resetCount) ∧
      (i.quality = .invalid → g.i0 = f.i0 ∧ g.rise = f.rise ∧
        g.rr = (if f.rr = .rising then .idle else f.rr) ∧ g.endCount = (if f.rr = .rising then 0 else f.endCount) ∧
        g.resetCount = (if f.rr = .tripped then 0 else f.resetCount)) ∧
      (i.quality = .valid ∨ i.quality = .saturated →
        (f.rr = .idle →
          (f.closeBlock ≠ 0 ∨ rate = none ∨ (∃ r, rate = some r ∧ r < v.sStart) →
            g.rr = .idle ∧ g.i0 = f.i0 ∧ g.rise = f.rise ∧ g.endCount = f.endCount ∧ g.resetCount = f.resetCount) ∧
          (∀ r, f.closeBlock = 0 → rate = some r → (v.sStart : Int) ≤ r →
            g.rr = .rising ∧ g.i0 = old.value ∧ g.rise = 0 ∧ g.endCount = 0 ∧ g.resetCount = f.resetCount)) ∧
        (f.rr = .rising → ∀ n : Nat,
          n = (match rate with
            | none => f.endCount
            | some r => if r < v.sHold then f.endCount + 1 else 0) →
          g.i0 = f.i0 ∧ g.rise = f.rise + 1 ∧
          ((v.dISet : Int) ≤ i.value - f.i0 ∧ v.tMin ≤ f.rise + 1 →
            g.rr = .tripped ∧ g.endCount = f.endCount ∧ g.resetCount = 0) ∧
          (¬ ((v.dISet : Int) ≤ i.value - f.i0 ∧ v.tMin ≤ f.rise + 1) → g.resetCount = f.resetCount ∧
            (n = 3 ∨ f.rise + 1 = v.tMax → g.rr = .idle ∧ g.endCount = 0) ∧
            (n ≠ 3 → f.rise + 1 ≠ v.tMax → g.rr = .rising ∧ g.endCount = n))) ∧
        (f.rr = .tripped → g.i0 = f.i0 ∧ g.rise = f.rise ∧ g.endCount = f.endCount ∧
          ((v.iReset : Int) ≤ i.value → g.rr = .tripped ∧ g.resetCount = 0) ∧
          (i.value < v.iReset → f.resetCount ≠ 9 → g.rr = .tripped ∧ g.resetCount = f.resetCount + 1) ∧
          (i.value < v.iReset → f.resetCount = 9 → g.rr = .idle ∧ g.resetCount = 0))))

/-! ## Drive channels and breakers -/

/-- PEAK_REACHED (R115): the ramp time is the timer; a coil whose operation is in progress enters HOLD with its timer
and floor-low count at 0, any other enters QUENCH; a test contactor's notice takes its sequence from STARTING to
SETTLE (R125, R143). Nothing else changes. FLOOR_SAMPLE (R116): a high sample in HOLD sets the floor-low count to 0; a
low one adds 1, short of the eighth. QUENCH_END, CHECK_PULSE_END, CHECK_END and COOL_OFF_END (R114, R118): QUENCH
leads to CHECK; a test pulse that ends without the floor comparator seen sets COIL_OPEN; CHECK leads to OFF and starts
the cool-off, and a failed trip operation whose channel it is ends (R126); a cool-off ends at 0. The coil output: on
throughout PEAK, off in OFF and QUENCH; in HOLD on for the first trunc(D_hold × 50 / 100) µs of each period of 50 µs,
7 µs for 15 %, and off for the rest (R116); in CHECK on for the pulse of 20 µs (R118). (Each row as one command: log
1.) -/
def Obligations.CoilsPassThroughTheirStates : Prop :=
  (∀ (s : State) (c : Fin 20), s.AtRest → (s.drive c).state = .peak →
     (coilKind c ≠ .test → s.coilBusy c = true → exec (.peakReached c) s = .next (s.onDrive c fun d =>
       { d with ramp := d.timer, state := .hold, timer := 0, floorLow := 0 })) ∧
     (s.coilBusy c = false → exec (.peakReached c) s = .next (s.onDrive c fun d =>
       { d with ramp := d.timer, state := .quench, timer := 0 })) ∧
     (coilKind c = .test → exec (.peakReached c) s = .next ((s.onDrive c fun d =>
       { d with ramp := d.timer, state := .hold, timer := 0, floorLow := 0 }).onSeq (channelFeeder c) fun q =>
       if q.state = .lineTest ∧ q.phase = .starting then { q with phase := .settle, timer := 0 } else q))) ∧
  (∀ (s : State) (c : Fin 20), s.AtRest → (s.drive c).state = .hold →
     exec (.floorSample c true) s = .next (s.onDrive c fun d => { d with floorLow := 0 }) ∧
     ((s.drive c).floorLow < 7 →
       exec (.floorSample c false) s = .next (s.onDrive c fun d => { d with floorLow := d.floorLow + 1 }))) ∧
  (∀ (s : State) (c : Fin 20) (b : Fin 7), s.AtRest → s.Roomy → b = channelBreaker c →
     ((s.drive c).state = .quench → 5000 ≤ (s.drive c).timer + 100 →
       exec (.quenchEnd c) s = .next (s.onDrive c fun d => { d with state := .check, timer := 0, pulseSeen := false })) ∧
     ((s.drive c).state = .check → (s.drive c).timer < 20 → (s.drive c).pulseSeen = true →
       exec (.checkPulseEnd c) s = .next (s.onDrive c fun d => { d with timer := 20 })) ∧
     ((s.drive c).state = .check → (s.drive c).timer < 20 → (s.drive c).pulseSeen = false →
       ∃ t, exec (.checkPulseEnd c) s = .next t ∧ Logged [⟨.drive, c.val, .coilOpen, 2, some 2⟩]
         ((s.onDrive c fun d => { d with timer := 20 }).onBreaker b fun r =>
           { r with latches := { r.latches with coilOpen := true } }) t) ∧
     ((s.drive c).state = .check → 10000 ≤ (s.drive c).timer + 100 →
       (c = tripChannel b → (s.breaker b).op = .tripping → (s.breaker b).tbf * 10 ≤ (s.breaker b).count →
         exec (.checkEnd c) s = .next ((s.onDrive c fun d =>
           { d with state := .off, timer := 0, cool := d.tCool * 10000 }).onBreaker b fun r =>
           { r with op := .none, count := 0, moved := false })) ∧
       (¬ (c = tripChannel b ∧ (s.breaker b).op = .tripping ∧ (s.breaker b).tbf * 10 ≤ (s.breaker b).count) →
         exec (.checkEnd c) s = .next (s.onDrive c fun d =>
           { d with state := .off, timer := 0, cool := d.tCool * 10000 }))) ∧
     ((s.drive c).cool = 1 → exec (.coolOffEnd c) s = .next (s.onDrive c fun d => { d with cool := 0 }))) ∧
  (∀ d : Drive, (d.state = .peak → d.output = true) ∧ (d.state = .off ∨ d.state = .quench → d.output = false) ∧
     (d.state = .hold → (d.output = true ↔ d.timer % 50 < d.dHold * 50 / 100)) ∧
     (d.state = .hold → d.dHold = 15 → (d.output = true ↔ d.timer % 50 < 7)) ∧
     (d.state = .check → (d.output = true ↔ d.timer < 20)))

/-- PEAK_TIMEOUT (R115) and COIL_LOST (R116): the channel enters QUENCH, the latch of its breaker is set and the event
names the channel. A trip goes on; a close under way ends as FAILED, and a sequence that waits for it enters LOCKOUT
with CLOSE_FAILED (R124, R148); a line test whose contactor it is ends in LOCKOUT with TEST_ENDED (R125, R147).
HOLD_TIMEOUT (R117): the channel enters QUENCH. A trip coil sets no latch and its operation goes on; a close under way
fails with CLOSE_FAIL, latch and event; a line test whose contactor it is ends in LOCKOUT with TEST_ENDED. (Each row as
one command: log 1.) -/
def Obligations.CoilFaultsAndHoldTimeouts : Prop :=
  (∀ (s : State) (c : Fin 20) (b : Fin 7), s.AtRest → s.Roomy → b = channelBreaker c →
     ((s.drive c).state = .peak → (s.drive c).tPeak * 1000 ≤ (s.drive c).timer + 100 →
       ∃ t, exec (.peakTimeout c) s = .next t ∧ (t.drive c).state = .quench ∧ (t.drive c).timer = 0 ∧
         (t.breaker b).latches = { (s.breaker b).latches with coilOpen := true } ∧
         (∃ x ∈ t.eru.queue, x.msg = ⟨.drive, c.val, .coilOpen, 2, some 1⟩) ∧
         (coilKind c = .trip → Logged [⟨.drive, c.val, .coilOpen, 2, some 1⟩]
           ((s.onDrive c fun d => { d with state := .quench, timer := 0 }).onBreaker b fun r =>
             { r with latches := { r.latches with coilOpen := true } }) t) ∧
         (coilKind c = .close → (s.breaker b).op = .closing → (t.breaker b).op = .none ∧
           ∀ k : Fin 6, breakerOf k = b → (s.seq k).state = .closing → (s.seq k).phase = .closeEnergised →
             (t.seq k).state = .lockout ∧ (t.seq k).reason = .closeFailed) ∧
         (coilKind c = .test → (s.seq (channelFeeder c)).state = .lineTest →
           (t.seq (channelFeeder c)).state = .lockout ∧ (t.seq (channelFeeder c)).reason = .testEnded) ∧
         ∀ d : Fin 20, d ≠ c → coilKind d ≠ .test → t.drive d = s.drive d) ∧
     ((s.drive c).state = .hold → (s.drive c).floorLow = 7 →
       ∃ t, exec (.coilLost c) s = .next t ∧ (t.drive c).state = .quench ∧ (t.drive c).timer = 0 ∧
         (t.breaker b).latches = { (s.breaker b).latches with coilLost := true } ∧
         (∃ x ∈ t.eru.queue, x.msg = ⟨.drive, c.val, .coilLost, 2, none⟩) ∧
         (coilKind c = .trip → Logged [⟨.drive, c.val, .coilLost, 2, none⟩]
           ((s.onDrive c fun d => { d with state := .quench, timer := 0, floorLow := 8 }).onBreaker b fun r =>
             { r with latches := { r.latches with coilLost := true } }) t) ∧
         (coilKind c = .close → (s.breaker b).op = .closing → (t.breaker b).op = .none ∧
           ∀ k : Fin 6, breakerOf k = b → (s.seq k).state = .closing → (s.seq k).phase = .closeEnergised →
             (t.seq k).state = .lockout ∧ (t.seq k).reason = .closeFailed) ∧
         (coilKind c = .test → (s.seq (channelFeeder c)).state = .lineTest →
           (t.seq (channelFeeder c)).state = .lockout ∧ (t.seq (channelFeeder c)).reason = .testEnded) ∧
         ∀ d : Fin 20, d ≠ c → coilKind d ≠ .test → t.drive d = s.drive d)) ∧
  (∀ (s : State) (c : Fin 20), s.AtRest → s.Roomy → (s.drive c).state = .hold →
     (s.drive c).tHold * 1000 ≤ (s.drive c).timer + 100 →
     (coilKind c = .trip → exec (.holdTimeout c) s = .next (s.onDrive c fun d => { d with state := .quench, timer := 0 })) ∧
     (coilKind c = .close → (s.breaker (channelBreaker c)).op = .closing →
       ∃ t, exec (.holdTimeout c) s = .next t ∧ t.drive c = { s.drive c with state := .quench, timer := 0 } ∧
         t.breaker (channelBreaker c) = { s.breaker (channelBreaker c) with
           op := .none, count := 0, latches := { (s.breaker (channelBreaker c)).latches with closeFail := true } } ∧
         (∃ x ∈ t.eru.queue, x.msg = ⟨.breaker, (channelBreaker c).val, .closeFail, 2, none⟩) ∧
         ∀ k : Fin 6, breakerOf k = channelBreaker c → (s.seq k).state = .closing →
           (s.seq k).phase = .closeEnergised → (t.seq k).state = .lockout ∧ (t.seq k).reason = .closeFailed) ∧
     (coilKind c = .test → (s.seq (channelFeeder c)).state = .lineTest →
       ∃ t, exec (.holdTimeout c) s = .next t ∧ Logged [⟨.feeder, (channelFeeder c).val, .lockout, 2, some 5⟩]
         ((s.onDrive c fun d => { d with state := .quench, timer := 0 }).onSeq (channelFeeder c) fun q =>
           { q with state := .lockout, phase := .none, timer := 0, reason := .testEnded }) t))

/-- FRAME and the drive channels (R114 to R118). A µs: PEAK counts until the peak comparator is seen, with the ramp time
and HOLD, or QUENCH where its operation is over, or until T_peak_max, with QUENCH and COIL_OPEN; HOLD samples the floor
comparator at the end of each on-interval, the eighth low sample gives QUENCH and COIL_LOST, T_hold_max QUENCH; QUENCH
lasts 5 ms, CHECK 10 ms, with COIL_OPEN where its pulse of 20 µs passes unseen; OFF starts the cool-off (when in a µs
the comparators are read: log 18). A FRAME takes 1 from every cool-off and runs every channel through its µs. After
that a trip channel changes only by HOLD ending with its operation or by a trip that energises it; a close channel by
HOLD ending, a close of the frame, or its release by a trip (R122, log 39); a test channel by a request that the RCL
makes or by its release, which a breaker that is not OPEN forces (R117, R121, R123, R125). -/
def Obligations.FrameRunsTheDriveChannels : Prop :=
  (∀ (m : Micro) (s u : State) (c : Fin 20) (d : Drive) (b : Fin 7) (n : Nat), b = channelBreaker c → d = s.drive c →
    u = drivesTick m s → n = d.timer + 1 →
    (d.state = .off → u.drive c = d) ∧
    (d.state = .peak →
      (m.peak.getLsbD c.val = true → u.drive c = (if s.coilBusy c then
          { d with ramp := n, state := .hold, timer := 0, floorLow := 0 }
        else { d with ramp := n, state := .quench, timer := 0 })) ∧
      (m.peak.getLsbD c.val = false → n < d.tPeak * 1000 → u.drive c = { d with timer := n }) ∧
      (m.peak.getLsbD c.val = false → d.tPeak * 1000 ≤ n → u.drive c = { d with state := .quench, timer := 0 } ∧
        (u.breaker b).latches.coilOpen = true)) ∧
    (d.state = .hold → ∀ low : Nat,
      low = (if n % 50 ≠ d.dHold * 50 / 100 then d.floorLow
        else if m.floor.getLsbD c.val then 0 else d.floorLow + 1) →
      (n % 50 = d.dHold * 50 / 100 → 8 ≤ low → u.drive c = { d with floorLow := low, state := .quench, timer := 0 } ∧
        (u.breaker b).latches.coilLost = true) ∧
      (n % 50 ≠ d.dHold * 50 / 100 ∨ low < 8 → u.drive c = (if d.tHold * 1000 ≤ n then
        { d with floorLow := low, state := .quench, timer := 0 } else { d with floorLow := low, timer := n }))) ∧
    (d.state = .quench → u.drive c =
      (if 5000 ≤ n then { d with state := .check, timer := 0, pulseSeen := false } else { d with timer := n })) ∧
    (d.state = .check → ∀ seen : Bool, seen = (d.pulseSeen || (decide (n ≤ 20) && m.floor.getLsbD c.val)) →
      u.drive c = (if 10000 ≤ n then
          { d with state := .off, timer := 0, pulseSeen := seen, cool := d.tCool * 10000 }
        else { d with timer := n, pulseSeen := seen }) ∧
      (n = 20 → seen = false → (u.breaker b).latches.coilOpen = true))) ∧
  (∀ (s u : State) (inp : FrameInput), u = bduCounts s →
    (∀ c, u.drive c = { s.drive c with cool := (s.drive c).cool - 1 }) ∧
    s.afterMicros inp = inp.micros.foldl (fun u m => drivesTick m u) u) ∧
  (∀ (s t : State) (inp : FrameInput), s.Plain → exec (.frame inp) s = .next t →
    (∀ (b : Fin 7) (c : Fin 20) (x : Drive), c = tripChannel b → x = (s.afterMicros inp).drive c →
      ((s.breaker b).op = .tripping → t.drive c = (if (t.breaker b).position = .opn then x.endHold else x)) ∧
      ((s.breaker b).op ≠ .tripping → (t.breaker b).tripTaken = false → t.drive c = x) ∧
      ((s.breaker b).op ≠ .tripping → (t.breaker b).tripTaken = true →
        t.drive c = x ∨ t.drive c = x.energise (s.driveRec c))) ∧
    (∀ (b : Fin 7) (c : Fin 20) (x : Drive), c = closeChannel b → x = (s.afterMicros inp).drive c →
      ((t.breaker b).tripTaken = true → t.drive c = x ∨ t.drive c = x.release) ∧
      ((t.breaker b).tripTaken = false → (t.breaker b).op = .closing → (t.breaker b).count = 0 →
        x.state = .off ∧ t.drive c = x.energise (s.driveRec c)) ∧
      ((t.breaker b).tripTaken = false → (t.breaker b).op ≠ .closing ∨ (t.breaker b).count ≠ 0 →
        t.drive c = x ∨ ((t.breaker b).position = .closed ∧ t.drive c = x.endHold))) ∧
    (∀ (k : Fin 6) (c : Fin 20) (x : Drive), c = testChannel k → x = (s.afterMicros inp).drive c →
      (t.breakerOpen k = false → t.drive c = x.release) ∧
      (t.breakerOpen k = true → t.drive c = x ∨ t.drive c = x.release ∨
        (x.state = .off ∧ t.drive c = x.energise (s.driveRec c) ∧ (t.seq k).phase = .starting))))

/-- BREAKER_FAILURE_CHECK (R126): a trip operation that reaches T_bf in force × 10 with its breaker not OPEN gives BF
with the count; with latch BF clear it is set and the breaker's row raised with the count (its trips release the close
channels of the breakers they start to trip, log 39); with it set the row is not raised again. While the trip channel
is not OFF the operation goes on; where it has already returned to OFF the operation ends with the check, with no
OPENED event. (Each row as one command: log 1.) -/
def Obligations.BreakerFailureRaisesItsRowOnce : Prop :=
  ∀ (s : State) (b : Fin 7) (row : Fin 40) (n : Nat) (bf : EventMsg), s.AtRest → s.Roomy →
    (s.breaker b).op = .tripping → n = (s.breaker b).count + 1 → n = (s.breaker b).tbf * 10 →
    row = (if h : b.val < 6 then ⟨6 * b.val + 4, by omega⟩ else 37) → bf = ⟨.breaker, b.val, .bf, 0, some (n : Int)⟩ →
    ∃ t, exec (.breakerFailureCheck b) s = .next t ∧ (∃ x ∈ t.eru.queue, x.msg = bf) ∧
      (t.breaker b).latches = { (s.breaker b).latches with bf := true } ∧
      ((s.drive (tripChannel b)).state ≠ .off → (t.breaker b).op = .tripping ∧
        ((s.breaker b).latches.bf = false → RowTaken row n
          (s.onBreaker b fun r => { r with count := r.count + 1, latches := { r.latches with bf := true } }) t) ∧
        ((s.breaker b).latches.bf = true → Logged [bf] (s.onBreaker b fun r => { r with count := r.count + 1 }) t)) ∧
      ((s.drive (tripChannel b)).state = .off → (t.breaker b).op = .none ∧ (t.breaker b).count = 0 ∧
        t.drive (tripChannel b) = s.drive (tripChannel b) ∧
        ((s.breaker b).latches.bf = false → (∃ x ∈ t.eru.queue, x.msg = tripEvent s ⟨row, n⟩) ∧
          ∀ c : Fin 7, (appliedTrip s row).getLsbD c.val = true → (t.breaker c).tripTaken = true ∧
            (c ≠ b → s.tripReady c → t.TripBegun c ∧ t.drive (closeChannel c) = (s.drive (closeChannel c)).release)) ∧
        ((s.breaker b).latches.bf = true →
          Logged [bf] (s.onBreaker b fun r => { r with op := .none, count := 0, moved := false }) t))

/-- FRAME and the breakers. The position of each breaker is formed from indication word 0: OPEN, CLOSED, TRAVEL or
DISCREPANT by its two contacts, UNKNOWN where the word is STALE or the breaker not fitted (R119). A trip under way
whose breaker is OPEN in this frame and has moved ends, with the energise frame count as its operating time (R120),
also where its trip channel returns to OFF in that frame (log 31). The end of the breaker's part of a frame, of a
state `s` with the position of the frame before (R117, R120, R124): an operation on its target ends; HOLD of its coil
ends and PEAK goes on; a breaker that has moved gives OPENED or CLOSED with the count, one that has not gives none; a
feeder's close reports CLOSED to its sequence. A breaker whose operation is not on its target, or with none, gives
OPENED or CLOSED with value −1 when its position becomes OPEN or CLOSED other than from UNKNOWN, DISCREPANT when it
becomes DISCREPANT, and nothing otherwise. -/
def Obligations.BreakerPositionsAndOperationEnds : Prop :=
  (∀ (s t : State) (inp : FrameInput) (b : Fin 7) (o c : Bool), exec (.frame inp) s = .next t →
    o = t.sbi.words[0].agreed.getLsbD (2 * b.val) → c = t.sbi.words[0].agreed.getLsbD (2 * b.val + 1) →
    (t.breaker b).position =
      (if t.isFitted b = false ∨ t.sbi.words[0].valid = false then .unknown
       else if o = true ∧ c = true then .discrepant
       else if o = true then .opn
       else if c = true then .closed
       else .travel) ∧
    (s.scu.job = none → (s.breaker b).op = .tripping → (s.breaker b).moved = true → (t.breaker b).position = .opn →
      (t.breaker b).lastTime = (s.breaker b).count + 1 ∧ (t.breaker b).op ≠ .tripping)) ∧
  (∀ (s t : State) (before : Position) (b : Fin 7), t = settleBreaker before b s →
    (∀ (c : Fin 20) (closes : Bool), ((s.breaker b).op = .tripping ∧ (s.breaker b).position = .opn ∧ closes = false ∧
        c = tripChannel b) ∨
        ((s.breaker b).op = .closing ∧ (s.breaker b).position = .closed ∧ closes = true ∧ c = closeChannel b) →
      (t.breaker b).op = .none ∧ (t.breaker b).count = 0 ∧ (t.breaker b).position = (s.breaker b).position ∧
      (t.drive c).state = (if (s.drive c).state = .hold then .quench else (s.drive c).state) ∧
      ((s.breaker b).moved = true → (t.breaker b).lastTime = (s.breaker b).count ∧ t.wires.events = s.wires.events ++
        [(.bdu, ⟨.breaker, b.val, if closes then .closed else .opened, 1, some ((s.breaker b).count : Int)⟩)]) ∧
      ((s.breaker b).moved = false → (t.breaker b).lastTime = (s.breaker b).lastTime ∧
        t.wires.events = s.wires.events) ∧
      ∀ k : Fin 6, breakerOf k = b → closes = true → t.wires.outcome[k] = some .closed) ∧
    ((s.breaker b).op = .none ∨ (s.breaker b).op.target ≠ some (s.breaker b).position →
      (s.breaker b).wasFitted = s.isFitted b →
      t.wires.events = s.wires.events ++
        (if (s.breaker b).position = before then []
         else match (s.breaker b).position with
          | .opn => if before = .unknown then [] else [(.bdu, ⟨.breaker, b.val, .opened, 1, some (-1)⟩)]
          | .closed => if before = .unknown then [] else [(.bdu, ⟨.breaker, b.val, .closed, 1, some (-1)⟩)]
          | .discrepant => [(.bdu, ⟨.breaker, b.val, .discrepant, 2, none⟩)]
          | .travel => []
          | .unknown => [])))

/-! ## Reclose sequences -/

/-- DEAD_TIME_END (R140) and RECLAIM_END (R149): a dead time that runs out leads to PRECHECK; a reclaim time that runs
out with the breaker not OPEN leads to IDLE with attempt count 0 and RECLAIMED with the attempts used; that the timer
of the sequence is 0 on the entry to IDLE is log 34. Nothing else changes. PRECHECK_TIMEOUT (R141, R150): the
100,000th frame with a failing condition leads to LOCKOUT, the reason being the cause of the first condition that
fails. Nothing else changes. (Each row as one command: log 1.) -/
def Obligations.SequenceTimesRunOut : Prop :=
  (∀ (s : State) (k : Fin 6), s.AtRest → s.Roomy →
     ((s.seq k).state = .deadTime → (s.recloseRec k).dead (s.seq k).attempts * 10 ≤ (s.seq k).timer + 1 →
       exec (.deadTimeEnd k) s = .next (s.onSeq k fun q =>
         { q with state := .precheck, phase := .none, timer := 0, precheck := 0, wait := .none })) ∧
     ((s.seq k).state = .reclaim → s.breakerOpen k = false →
       (s.recloseRec k).tReclaim * 10000 ≤ (s.seq k).timer + 1 →
       ∃ t, exec (.reclaimEnd k) s = .next t ∧
         Logged [⟨.feeder, k.val, .reclaimed, 3, some ((s.seq k).attempts : Int)⟩]
           (s.onSeq k fun q => { q with state := .idle, phase := .none, timer := 0, attempts := 0 }) t)) ∧
  (∀ (s : State) (k : Fin 6) (c : Cause), s.AtRest → s.Roomy → (s.seq k).state = .precheck →
     precheckCause s k = some c → (s.seq k).precheck = 99999 →
     ∃ t, exec (.precheckTimeout k) s = .next t ∧ Logged [⟨.feeder, k.val, .lockout, 2, some (c.code : Int)⟩]
       (s.onSeq k fun q =>
         { q with state := .lockout, phase := .none, timer := 0, reason := c, wait := c, precheck := 100000 }) t)

/-- PRECHECK_PASS (R141, R142) where every condition holds. A live count of 100 leads to CLOSING with LIVE_LINE_CLOSE,
and the close request of the same frame, when the BDU takes it, energises the close channel and starts the RR close
block (R74, R123). Any other live count leads to LINE_TEST, and the test request of the same frame, when the BDU takes
it, energises the test contactor (R125, R143). A cool-off leaves the request to a later frame. That the timer of the
sequence is 0 on the entry to CLOSING is log 34. (Each row as one command: log 1.) -/
def Obligations.PassedPrecheckTestsOrCloses : Prop :=
  ∀ (s : State) (k : Fin 6), s.AtRest → s.Roomy → (s.seq k).state = .precheck → precheckCause s k = none →
    ((s.seq k).live = 100 → (s.driveRec (closeChannel (breakerOf k))).enabled = true →
      (s.breaker (breakerOf k)).tripTaken = false →
      ∃ t, exec (.precheckPass k) s = .next t ∧
        ((s.drive (closeChannel (breakerOf k))).cool = 0 →
          Logged [⟨.feeder, k.val, .liveLineClose, 1, some (s.voltageOut k).value⟩]
            ((((s.onSeq k fun q =>
              { q with state := .closing, phase := .closeEnergised, timer := 0, wait := .none }).onDrive
              (closeChannel (breakerOf k)) (Drive.energise (s.driveRec (closeChannel (breakerOf k))))).onBreaker
              (breakerOf k) fun r => { r with op := .closing, count := 0, moved := true }).onFeeder k fun f =>
              { f with closeBlock := 20 }) t) ∧
        ((s.drive (closeChannel (breakerOf k))).cool ≠ 0 →
          Logged [⟨.feeder, k.val, .liveLineClose, 1, some (s.voltageOut k).value⟩]
            (s.onSeq k fun q => { q with state := .closing, phase := .closeWait, timer := 0, wait := .none }) t)) ∧
    ((s.seq k).live ≠ 100 → (s.driveRec (testChannel k)).enabled = true →
      ((s.drive (testChannel k)).cool = 0 → exec (.precheckPass k) s = .next ((s.onSeq k fun q =>
          { q with state := .lineTest, phase := .starting, timer := 0, wait := .none }).onDrive (testChannel k)
          (Drive.energise (s.driveRec (testChannel k))))) ∧
      ((s.drive (testChannel k)).cool ≠ 0 → exec (.precheckPass k) s = .next (s.onSeq k fun q =>
          { q with state := .lineTest, phase := .request, timer := 0, wait := .none })))

/-- TEST_REQUEST (R125, R143): with no interruption, the request is taken and the contactor energised; on COOLING it
waits; on REFUSED_STATE the sequence enters LOCKOUT. Nothing else changes. CLOSE_REQUEST (R123, R148): with every
channel of the breaker OFF the close is requested. A request that passes the checks energises the close channel and
the phase is CLOSE_ENERGISED; COOLING waits; any other refusal leads to LOCKOUT. (Each row as one command: log 1.) -/
def Obligations.RequestsAreTakenWaitOrLockOut : Prop :=
  (∀ (s : State) (k : Fin 6), s.AtRest → s.Roomy → (s.seq k).state = .lineTest → (s.seq k).phase = .request →
     s.testDisturbed k = false →
     (testCheck s k = none → exec (.testRequest k) s = .next ((s.onDrive (testChannel k)
       (Drive.energise (s.driveRec (testChannel k)))).onSeq k fun q => { q with phase := .starting })) ∧
     (testCheck s k = some .cooling → exec (.testRequest k) s = .next s) ∧
     (testCheck s k = some .refusedState → (s.drive (testChannel k)).energised = false →
       ∃ t, exec (.testRequest k) s = .next t ∧ Logged [⟨.feeder, k.val, .lockout, 2, some 4⟩]
         (s.onSeq k fun q => { q with state := .lockout, phase := .none, timer := 0, reason := .testRefused }) t)) ∧
  (∀ (s : State) (k : Fin 6), s.AtRest → s.Roomy → (s.seq k).state = .closing → (s.seq k).phase = .closeWait →
     s.allOff (breakerOf k) = true →
     (closeCheck s (breakerOf k) = none → exec (.closeRequest k) s = .next
       ((((s.onDrive (closeChannel (breakerOf k)) (Drive.energise (s.driveRec (closeChannel (breakerOf k))))).onBreaker
         (breakerOf k) fun r => { r with op := .closing, count := 0, moved := true }).onFeeder k fun f =>
         { f with closeBlock := 20 }).onSeq k fun q => { q with phase := .closeEnergised })) ∧
     (closeCheck s (breakerOf k) = some .cooling → exec (.closeRequest k) s = .next s) ∧
     (∀ r, closeCheck s (breakerOf k) = some r → r ≠ .cooling →
       ∃ t, exec (.closeRequest k) s = .next t ∧ Logged [⟨.feeder, k.val, .lockout, 2, some 3⟩]
         (s.onSeq k fun q => { q with state := .lockout, phase := .none, timer := 0, reason := .closeRefused }) t))

/-- SETTLE_END (R144): the last settling frame leads to SUM with the sums at 0. LINE_TEST_COMPLETE (R144, R145): the
frame that completes the sums releases the contactor and decides by R_line, the mean voltage over the mean current in
mΩ, 4 MΩ where the current is below I_test_min: at or above R_min LINE_TEST_PASS and CLOSING, below it LINE_TEST_FAIL
and the next dead time, or LOCKOUT when the attempts are used up. That the timer of the sequence is 0 on the entry to
CLOSING is log 34. (Each row as one command: log 1.) -/
def Obligations.LineTestSettlesSumsAndDecides : Prop :=
  ∀ (s : State) (k : Fin 6), s.AtRest → s.Roomy → (s.seq k).state = .lineTest → s.testDisturbed k = false →
    ((s.seq k).phase = .settle → (s.recloseRec k).tSettle ≤ (s.seq k).timer + 1 →
      exec (.settleEnd k) s = .next (s.onSeq k fun q =>
        { q with timer := q.timer + 1, phase := .sum, sumU := 0, sumI := 0, samples := 0 })) ∧
    (∀ (r : Nat) (u i : Int), (s.seq k).phase = .sum → s.summable k = true →
      (s.recloseRec k).nAvg ≤ (s.seq k).samples + 1 →
      u = ((s.seq k).sumU + (s.voltageOut k).value).tdiv (s.recloseRec k).nAvg →
      i = ((s.seq k).sumI + (s.currentOut k).value).tdiv (s.recloseRec k).nAvg →
      (r : Int) = (if i < (s.recloseRec k).iTestMin then 4000000 else min 4000000 (max 0 ((u * 1000).tdiv i))) →
      ∃ t, exec (.lineTestComplete k) s = .next t ∧
        t.drive (testChannel k) = (s.drive (testChannel k)).release ∧ (t.seq k).lastR = r ∧
        ((s.recloseRec k).rMin ≤ r → (t.seq k).state = .closing ∧ (t.seq k).phase = .closeWait ∧
          (t.seq k).timer = 0 ∧ (t.seq k).attempts = (s.seq k).attempts ∧
          ∃ x ∈ t.eru.queue, x.msg = ⟨.feeder, k.val, .lineTestPass, 1, some (r : Int)⟩) ∧
        (r < (s.recloseRec k).rMin → (s.seq k).attempts < (s.recloseRec k).attempts →
          (t.seq k).state = .deadTime ∧ (t.seq k).phase = .none ∧ (t.seq k).timer = 0 ∧
          (t.seq k).attempts = (s.seq k).attempts + 1 ∧
          ∃ x ∈ t.eru.queue, x.msg = ⟨.feeder, k.val, .lineTestFail, 2, some (r : Int)⟩) ∧
        (r < (s.recloseRec k).rMin → (s.recloseRec k).attempts ≤ (s.seq k).attempts →
          (t.seq k).state = .lockout ∧ (t.seq k).reason = .attemptsUsed ∧ (t.seq k).attempts = (s.seq k).attempts) ∧
        (∀ j, j ≠ k → t.seq j = s.seq j) ∧ (∀ b, t.breaker b = s.breaker b) ∧
        (∀ d, d ≠ testChannel k → t.drive d = s.drive d) ∧ t.sbi = s.sbi ∧ t.scu = s.scu ∧ t.mu = s.mu ∧ t.fpu = s.fpu ∧
        t.su = s.su ∧ t.rcu = s.rcu)

/-- FRAME and a sequence outside a test and a close (R138 to R142, R149, R150), with no telegram in hand and no change
of settings. The live count grows to at most 100 while the line is VALID at U_live or more, and is else 0. A reclose
start in IDLE or RECLAIM enters DEAD_TIME for the next attempt, or LOCKOUT with ATTEMPTS_USED. LOCKOUT and, without a
start, IDLE stay. DEAD_TIME counts to the dead time and enters PRECHECK. RECLAIM with the breaker OPEN enters IDLE with
the attempts kept; at T_reclaim, IDLE with attempts 0. PRECHECK: the first condition that fails becomes the wait cause
and the frame is counted, the 100,000th leads to LOCKOUT; where DRIVE_BUSY alone would be the cause the channels may be
those that the frame's own request has just energised. With every condition met the pre-check passes. The counts of the
bank are those before the frame's counting (log 6); timer 0 on entry to IDLE and to CLOSING is log 34. -/
def Obligations.FrameWorksTheSequences : Prop :=
  ∀ (s t : State) (inp : FrameInput) (k : Fin 6) (q r : Sys2Proof.Machine.Seq), s.Plain →
    exec (.frame inp) s = .next t →
    q = { s.seq k with
      live := if (t.voltageOut k).quality = .valid ∧ ((s.recloseRec k).uLive : Int) ≤ (t.voltageOut k).value then
        min 100 ((s.seq k).live + 1) else 0 } → r = t.seq k →
    r.live = q.live ∧
    (q.state = .lockout → r = q) ∧
    (q.state = .idle → startSeen s t k = false → r = q) ∧
    (q.state = .idle ∨ q.state = .reclaim → startSeen s t k = true →
      r = if q.attempts < (s.recloseRec k).attempts then
          { q with state := .deadTime, phase := .none, timer := 0, attempts := q.attempts + 1 }
        else { q with state := .lockout, phase := .none, timer := 0, reason := .attemptsUsed }) ∧
    (q.state = .reclaim → startSeen s t k = false →
      r = if t.breakerOpen k then { q with state := .idle, phase := .none, timer := 0 }
        else if (s.recloseRec k).tReclaim * 10000 ≤ q.timer + 1 then
          { q with state := .idle, phase := .none, timer := 0, attempts := 0 }
        else { q with timer := q.timer + 1 }) ∧
    (q.state = .deadTime →
      r = if (s.recloseRec k).dead q.attempts * 10 ≤ q.timer + 1 then
          { q with state := .precheck, phase := .none, timer := 0, precheck := 0, wait := .none }
        else { q with timer := q.timer + 1 }) ∧
    (q.state = .precheck → ∀ first : Option (Bool × Cause),
      first = [ (s.inService k, Cause.outOfService), (t.breakerOpen k, .breakerNotOpen),
        (!(t.breaker (breakerOf k)).latches.any, .latch), (t.allOff (breakerOf k), .driveBusy),
        (t.noElementTripped k, .elementTripped), ((t.feeder k).permit, .thermal), (!(t.feeder k).intertrip, .intertrip),
        (t.busOut.quality == .valid && decide (((s.recloseRec k).uBusMin : Int) ≤ t.uBus), .busVoltage),
        (t.rcu.state != .phaseBack, .phaseBack), (!s.counterBlocks k, .counterBlock) ].find? (fun p => !p.1) →
      (∀ c, first = some (false, c) →
        r = (if q.precheck + 1 < 100000 then { q with wait := c, precheck := q.precheck + 1 }
          else { q with
            state := .lockout, phase := .none, timer := 0, wait := c, precheck := q.precheck + 1, reason := c }) ∨
        (c = .driveBusy ∧ r.precheck = q.precheck ∧ r.wait = .none ∧ r.attempts = q.attempts ∧
          r.phase = (if q.live = 100 then .closeEnergised else .starting))) ∧
      (first = none → r.precheck = q.precheck ∧ r.wait = .none ∧ r.timer = 0 ∧ r.attempts = q.attempts ∧
        if q.live = 100 then
          (r.state = .closing ∧ r.phase = .closeWait) ∨ (r.state = .lockout ∧ r.reason = .closeRefused)
        else (r.state = .lineTest ∧ r.phase = .request) ∨ (r.state = .lockout ∧ r.reason = .testRefused)))

/-- FRAME and a sequence in a test or a close (R143 to R148), with no telegram in hand and no change of settings. A
test is interrupted back to PRECHECK with its sums discarded, or ended by the BDU into LOCKOUT with TEST_ENDED; which
of the two where both meet is log 11, and an end goes before a sum that would be complete (log 51). Otherwise: REQUEST
energises the contactor, waits for its cool-off, or leads to LOCKOUT with TEST_REFUSED; STARTING waits for HOLD; SETTLE
counts to T_settle; SUM adds the frame's voltage and current, starts again on an INVALID one, and with the sample that
reaches N_avg releases the contactor and decides by R_line. CLOSE_WAIT waits for the three channels OFF and for the
cool-off; its request is taken, or leads to LOCKOUT with CLOSE_REFUSED. CLOSE_ENERGISED: FAILED leads to LOCKOUT with
CLOSE_FAILED, CUT by a trip to the next attempt or LOCKOUT with ATTEMPTS_USED, CLOSED to RECLAIM. That timers are 0 on
entry to a state is log 34. -/
def Obligations.FrameWorksTestsAndCloses : Prop :=
  ∀ (s t u : State) (inp : FrameInput) (k : Fin 6) (b : Fin 7) (v : RecloseView) (q r next : Sys2Proof.Machine.Seq),
    s.Plain → exec (.frame inp) s = .next t → u = s.afterMicros inp → b = breakerOf k → v = s.recloseRec k →
    q = { s.seq k with
      live := if (t.voltageOut k).quality = .valid ∧ (v.uLive : Int) ≤ (t.voltageOut k).value then
        min 100 ((s.seq k).live + 1) else 0 } → r = t.seq k →
    next = (if q.attempts < v.attempts then
        { q with state := .deadTime, phase := .none, timer := 0, attempts := q.attempts + 1 }
      else { q with state := .lockout, phase := .none, timer := 0, reason := .attemptsUsed }) →
    (q.state = .lineTest →
      (testCut s t k = true → testEnds inp s t k = false → (t.drive (testChannel k)).energised = false ∧
        r = { q with
          state := .precheck, phase := .none, timer := 0, sumU := 0, sumI := 0, samples := 0 }) ∧
      (testEnds inp s t k = true → (t.drive (testChannel k)).energised = false ∧
        (r = { q with state := .lockout, phase := .none, timer := 0, reason := .testEnded } ∨
          (testCut s t k = true ∧ r = { q with
            state := .precheck, phase := .none, timer := 0, sumU := 0, sumI := 0, samples := 0 }))) ∧
      (testCut s t k = false → testEnds inp s t k = false →
        (q.phase = .request → ∀ free : Bool,
          free = ((s.driveRec (testChannel k)).enabled && (u.drive (testChannel k)).state == .off &&
            (u.drive (closeChannel b)).state == .off) →
          (free = true → (u.drive (testChannel k)).cool = 0 → t.breakerOpen k = true →
            r = { q with phase := .starting } ∧ (t.drive (testChannel k)).state = .peak) ∧
          (free = true → (u.drive (testChannel k)).cool ≠ 0 → r = q) ∧
          (free = false ∨ ((u.drive (testChannel k)).cool = 0 ∧ t.breakerOpen k = false) →
            r = { q with state := .lockout, phase := .none, timer := 0, reason := .testRefused })) ∧
        (q.phase = .starting → r =
          if (s.drive (testChannel k)).state = .peak ∧ (u.drive (testChannel k)).state = .hold then
            { q with phase := .settle, timer := 0 } else q) ∧
        (q.phase = .settle → r = if v.tSettle ≤ q.timer + 1 then
            { q with timer := q.timer + 1, phase := .sum, sumU := 0, sumI := 0, samples := 0 }
          else { q with timer := q.timer + 1 }) ∧
        (q.phase = .sum →
          ((t.voltageOut k).quality = .invalid ∨ (t.currentOut k).quality = .invalid →
            r = { q with sumU := 0, sumI := 0, samples := 0 }) ∧
          ((t.voltageOut k).quality ≠ .invalid → (t.currentOut k).quality ≠ .invalid →
            ∀ (su si a i : Int) (line : Nat), su = q.sumU + (t.voltageOut k).value →
            si = q.sumI + (t.currentOut k).value →
            a = su.tdiv v.nAvg → i = si.tdiv v.nAvg →
            (line : Int) = (if i < v.iTestMin then 4000000 else min 4000000 (max 0 ((a * 1000).tdiv i))) →
            (q.samples + 1 < v.nAvg → r = { q with sumU := su, sumI := si, samples := q.samples + 1 }) ∧
            (v.nAvg ≤ q.samples + 1 → (t.drive (testChannel k)).energised = false ∧
              r = { (if v.rMin ≤ line then { q with state := .closing, phase := .closeWait, timer := 0 } else next) with
                sumU := su, sumI := si, samples := q.samples + 1, lastR := line }))))) ∧
    (q.state = .closing → q.phase = .closeWait → ∀ off : Bool,
      off = (u.allOff b && (t.drive (tripChannel b)).state == .off) →
      (off = false → r = q) ∧
      (off = true → (s.driveRec (closeChannel b)).enabled = true → s.inService k = true →
        ((u.drive (closeChannel b)).cool ≠ 0 → r = q) ∧
        ((u.drive (closeChannel b)).cool = 0 → (t.breaker b).latches.any = false → t.breakerOpen k = true →
          t.noElementTripped k = true → (t.feeder k).permit = true → (t.feeder k).intertrip = false →
          (t.breaker b).tripTaken = false → r = { q with phase := .closeEnergised } ∧
            (t.drive (closeChannel b)).state = .peak ∧ (t.breaker b).op = .closing)) ∧
      (off = true → (s.driveRec (closeChannel b)).enabled = false ∨ s.inService k = false ∨
          ((u.drive (closeChannel b)).cool = 0 ∧ ((t.breaker b).latches.any = true ∨ t.breakerOpen k = false ∨
            t.noElementTripped k = false ∨ (t.feeder k).permit = false ∨ (t.feeder k).intertrip = true ∨
            (t.breaker b).tripTaken = true)) →
        r = { q with state := .lockout, phase := .none, timer := 0, reason := .closeRefused })) ∧
    (q.state = .closing → q.phase = .closeEnergised → ∀ failed : Bool,
      failed = ((s.drive (closeChannel b)).energised && !(u.drive (closeChannel b)).energised) →
      ((s.breaker b).op = .closing →
        (failed = true → r = { q with state := .lockout, phase := .none, timer := 0, reason := .closeFailed }) ∧
        (failed = false → (t.breaker b).tripTaken = true → s.isFitted b = true → r = next) ∧
        (failed = false → (t.breaker b).tripTaken = false → (t.breaker b).position = .closed →
          r = { q with state := .reclaim, phase := .none, timer := 0 }) ∧
        (failed = false → (t.breaker b).tripTaken = false → (t.breaker b).position ≠ .closed → r = q)) ∧
      ((s.breaker b).op ≠ .closing → r = q))

/-! ## The rectifier -/

/-- SYNC_ACQUIRED (R163): the fourth interval in range makes the sync VALID with the mean of the last four intervals
as its period. PHASE_COUNTER_WRAP (R163): the reference instant advances by one period. Nothing else changes.
CROSSING_MISSED (R164, R166): more than 1.25 periods after the last crossing one is missed; more than 2.25 periods
after it the sync is LOST, with SYNC_LOST cause 2, and a rectifier that fires enters BLOCKED, with RECT_BLOCKED cause
1, no thyristor pending and every gate output inactive. (That the bound is exceeded strictly is log 17; that the block
timer of an abandoned phase-back reads 0 is log 45; that SYNC_LOST goes before RECT_BLOCKED is logs 6 and 41.) (Each
row as one command: log 1.) -/
def Obligations.SyncIsAcquiredAndLost : Prop :=
  ((∀ (s : State) (x l : Nat), s.AtRest → s.rcu.sync.valid = false → s.rcu.sync.acq = 3 → 15385 ≤ x → x ≤ 22222 →
     s.rcu.sync.lastCross = some l → 4 * x ≤ 5 * s.rcu.sync.period →
     exec (.syncAcquired x) s = .next (s.onRcu fun u => { u with sync := { u.sync with
       valid := true, acq := 4, missed := 0, ref := l + x, lastCross := some (l + x)
       intervals := #v[x, u.sync.intervals[0], u.sync.intervals[1], u.sync.intervals[2]]
       period := (x + u.sync.intervals[0] + u.sync.intervals[1] + u.sync.intervals[2]) / 4 } })) ∧
   (∀ s : State, s.AtRest → s.rcu.sync.ref + s.rcu.sync.period ≤ s.timer + 100 → 1 ≤ s.rcu.sync.period →
     exec .phaseCounterWrap s = .next (s.onRcu fun u => { u with sync := { u.sync with ref := u.sync.ref + u.sync.period } }))) ∧
  (∀ (s : State) (l : Nat), s.AtRest → s.Roomy → s.rcu.sync.valid = true → s.rcu.sync.lastCross = some l →
     (s.rcu.sync.missed = 0 → 5 * s.rcu.sync.period < 4 * (s.timer - l) → 4 * (s.timer - l) ≤ 9 * s.rcu.sync.period →
       (s.rcu.state = .blocked ∨ blockCause s = none) →
       exec .crossingMissed s = .next (s.onRcu fun u => { u with sync := { u.sync with missed := 1 } })) ∧
     (s.rcu.sync.missed ≤ 1 → 9 * s.rcu.sync.period < 4 * (s.timer - l) → s.rcu.state ≠ .blocked →
       ∃ t, exec .crossingMissed s = .next t ∧
         Logged [⟨.rectifier, 0, .syncLost, 2, some 2⟩, ⟨.rectifier, 0, .rectBlocked, 2, some 1⟩]
           (s.onRcu fun u => { u with
             sync := { u.sync with valid := false, acq := 0, missed := 0, seqFault := 0, lastCross := none }
             state := .blocked, blockTimer := 0, integ := 0, cause := 1, pendingThy := none
             pulses := Vector.replicate 12 0 }) t) ∧
     (s.rcu.sync.missed ≤ 1 → 9 * s.rcu.sync.period < 4 * (s.timer - l) → s.rcu.state = .blocked →
       ∃ t, exec .crossingMissed s = .next t ∧ Logged [⟨.rectifier, 0, .syncLost, 2, some 2⟩]
         (s.onRcu fun u => { u with
           sync := { u.sync with valid := false, acq := 0, missed := 0, seqFault := 0, lastCross := none } }) t))

/-- FRAME and the phase tracking (R162 to R167). A crossing between two outputs that are VALID or SATURATED is located
by interpolation between the stamps of their frames; a frame is stamped with the timer at its start. Without a crossing
of sync channel 1 the misses are counted up to the frame's stamp, and at 2 the sync is LOST. A crossing of channel 1 is
the new reference; where none was missed its interval is measured, in range it enters the four, and the fourth in LOST
makes the sync VALID; out of range a VALID sync is LOST, in LOST the acquisition starts again. A crossing of channel 2
or 3 with the sync VALID makes the sequence check, and the second failure in a row loses the sync. (When a crossing
counts as missed: log 17; that the one that loses the sync begins no interval: log 27.) Blocking (R166): the first
condition that holds sends a rectifier that is not BLOCKED there, firing stopped and A 0, and without one it fires on; a
BLOCKED one leaves that state when it may run, but not in fallback operation after power-on (R167; the block timer:
log 45). -/
def Obligations.FrameTracksTheSyncAndBlocks : Prop :=
  (∀ (s : State) (c : Fin 32) (a b : Output), a = s.mu[c].prevOut → b = s.mu[c].out → crossingOf s c =
    if (a.quality = .valid ∨ a.quality = .saturated) ∧ (b.quality = .valid ∨ b.quality = .saturated) ∧ a.value < 0 ∧
        0 ≤ b.value then
      some (s.prevStamp + (s.stamp - s.prevStamp) * a.value.natAbs / (b.value - a.value).natAbs)
    else none) ∧
  (∀ (s t : State) (inp : FrameInput) (y z : Sync) (c1 c2 c3 : Option Nat) (missed : Nat → Nat → Nat), s.Plain →
    exec (.frame inp) s = .next t → y = s.rcu.sync → z = t.rcu.sync → c1 = crossingOf t t.rect.sync1 →
    c2 = crossingOf t t.rect.sync2 → c3 = crossingOf t t.rect.sync3 →
    (∀ l now, missed l now = max y.missed (if 9 * y.period < 4 * (now - l) then 2 else if 5 * y.period < 4 * (now - l)
      then 1 else 0)) →
    (t.prevStamp = s.stamp ∧ t.stamp = s.timer ∧ t.timer = s.timer + inp.micros.length) ∧
    (c1 = none → ∃ j, z.ref = y.ref + j * y.period) ∧
    (c1 = none → c2 = none → c3 = none →
      (y.valid = false ∨ y.lastCross = none → z = { y with ref := z.ref }) ∧
      (∀ l, y.valid = true → y.lastCross = some l →
        (missed l t.stamp ≤ 1 → z = { y with ref := z.ref, missed := missed l t.stamp }) ∧
        (2 ≤ missed l t.stamp → z = { y with
          ref := z.ref, valid := false, acq := 0, missed := 0, seqFault := 0, lastCross := none }))) ∧
    (∀ at1, c1 = some at1 → c2 = none → c3 = none →
      (y.lastCross = none → z = { y with ref := at1, missed := 0, lastCross := some at1 }) ∧
      (∀ l, y.lastCross = some l →
        (y.valid = true → 2 ≤ missed l at1 → z = { y with
          ref := at1, valid := false, acq := 0, missed := 0, seqFault := 0, lastCross := some at1 }) ∧
        (y.valid = false ∨ missed l at1 ≤ 1 → 5 * y.period < 4 * (at1 - l) →
          z = { y with ref := at1, missed := 0, lastCross := some at1 }) ∧
        (y.valid = false ∨ missed l at1 ≤ 1 → 4 * (at1 - l) ≤ 5 * y.period →
          (∀ v, v = #v[at1 - l, y.intervals[0], y.intervals[1], y.intervals[2]] → 15385 ≤ at1 - l → at1 - l ≤ 22222 →
            (y.valid = true ∨ y.acq = 3 → z = { y with
              ref := at1, missed := 0, lastCross := some at1, intervals := v, valid := true
              period := (v[0] + v[1] + v[2] + v[3]) / 4, acq := if y.valid then y.acq else 4 }) ∧
            (y.valid = false → y.acq ≠ 3 → z = { y with
              ref := at1, missed := 0, lastCross := some at1, intervals := v, acq := y.acq + 1 })) ∧
          (at1 - l < 15385 ∨ 22222 < at1 - l →
            (y.valid = true → z = { y with
              ref := at1, valid := false, acq := 0, missed := 0, seqFault := 0, lastCross := none }) ∧
            (y.valid = false → z = { y with ref := at1, missed := 0, lastCross := some at1, acq := 0 }))))) ∧
    (∀ (x lo hi counter : Nat), c1 = none →
      (c2 = some x ∧ c3 = none ∧ lo = 1050 ∧ hi = 1350) ∨ (c2 = none ∧ c3 = some x ∧ lo = 2250 ∧ hi = 2550) →
      counter = ((if z.ref ≤ x then x - z.ref else x + z.period - z.ref) * 3600 / z.period) →
      (y.valid = false → z = { y with ref := z.ref }) ∧
      (∀ l, y.valid = true → y.lastCross = some l → missed l t.stamp ≤ 1 →
        (lo ≤ counter ∧ counter ≤ hi → z = { y with ref := z.ref, missed := missed l t.stamp, seqFault := 0 }) ∧
        (counter < lo ∨ hi < counter → z = if y.seqFault = 1 then
            { y with ref := z.ref, valid := false, acq := 0, missed := 0, seqFault := 0, lastCross := none }
          else { y with ref := z.ref, missed := missed l t.stamp, seqFault := y.seqFault + 1 }))) ∧
    (∀ cause : Nat, cause = (if z.valid = false then 1 else if (t.breaker 6).position ≠ .closed then 2
        else if t.busOut.quality = .invalid then 3 else 0) →
      (s.rcu.state ≠ .blocked → cause ≠ 0 → t.rcu.state = .blocked ∧ t.rcu.cause = cause ∧ t.rcu.integ = 0 ∧
        t.rcu.blockTimer = 0 ∧ t.rcu.pendingThy = none ∧ ∀ n, t.gateOutput n = false) ∧
      (s.rcu.state ≠ .blocked → cause = 0 → t.rcu.state ≠ .blocked) ∧
      (s.rcu.state = .blocked → (t.rcu.state ≠ .blocked ↔
        cause = 0 ∧ t.busOut.quality = .valid ∧ (s.su.inUse = none → s.su.reason = .scrub)))))

/-- FIRING_INSTANT (R165, R168, R171, R172, R175): where the pending thyristor `n` fires within the frame to come, its
gate output is active for the pulse length, the next thyristor becomes pending, and its firing point lies at the new
angle: in REGULATING moved toward the computed angle by at most Δα_max, in SOFT_START lowered by Δα_soft until the
computed angle is met, in PHASE_BACK α_block, in FIXED the strap's angle. The computed angle is held to the limits in
use (log 46), so that in SOFT_START and REGULATING an angle within them stays within them (R175). Nothing else
changes. GATE_PULSE_END (R165): the gate output goes inactive, and nothing else changes. (Each row as one command: log
1.) -/
def Obligations.FiringAndGatePulses : Prop :=
  (∀ (s : State) (n : Fin 12) (target alpha : Nat) (next : RcuState), s.AtRest → s.rcu.pendingThy = some n →
     (∃ j ≤ 100, firesWhen s (s.timer + j) = true) →
     target = (if s.rcu.calcAlpha < s.rect.aMin then s.rect.aMin
       else if s.rect.aMax < s.rcu.calcAlpha then s.rect.aMax else s.rcu.calcAlpha) →
     ((s.rcu.state = .regulating ∧ next = .regulating ∧
         alpha = (if s.rcu.alpha < target then min target (s.rcu.alpha + s.rect.dAlphaMax)
           else max target (s.rcu.alpha - s.rect.dAlphaMax))) ∨
       (s.rcu.state = .softStart ∧ target + s.rect.dAlphaSoft < s.rcu.alpha ∧ next = .softStart ∧
         alpha = s.rcu.alpha - s.rect.dAlphaSoft) ∨
       (s.rcu.state = .softStart ∧ s.rcu.alpha ≤ target + s.rect.dAlphaSoft ∧ next = .regulating ∧ alpha = target) ∨
       (s.rcu.state = .phaseBack ∧ next = .phaseBack ∧ alpha = s.rect.aBlock) ∨
       (s.rcu.state = .fixed ∧ next = .fixed ∧ alpha = 150 + 50 * s.straps.fb.toNat)) →
     exec .firingInstant s = .next (s.onRcu fun u => { u with
       pulses := u.pulses.set n (s.timer + s.rect.pulse * u.sync.period / 3600)
       pendingThy := some (n + 1), alpha := alpha, state := next
       point := ((300 + 300 * (n + 1).val) % 3600 + alpha) % 3600 }) ∧
     (s.rcu.state = .softStart ∨ s.rcu.state = .regulating → s.rect.aMin ≤ s.rect.aMax →
       s.rect.aMin ≤ s.rcu.alpha → s.rcu.alpha ≤ s.rect.aMax → s.rect.aMin ≤ alpha ∧ alpha ≤ s.rect.aMax)) ∧
  (∀ (s : State) (n : Fin 12), s.AtRest → s.gateOutput n = true → s.rcu.pulses[n] ≤ s.timer + 100 →
     ∃ t, exec (.gatePulseEnd n) s = .next t ∧ t = (s.onRcu fun u => { u with pulses := u.pulses.set n s.timer }) ∧
       t.gateOutput n = false ∧ ∀ m : Fin 12, m ≠ n → t.gateOutput m = s.gateOutput m)

/-- RECT_RUN (R165, R167, R175): with the sync VALID, the AC breaker CLOSED and the bus voltage VALID, a BLOCKED
rectifier begins to fire: under a group in SOFT_START from α_max, RECT_RUN value 1; in fallback operation with reason
SCRUB in FIXED at the strap's angle, value 4; in fallback operation after power-on it stays BLOCKED. The first
thyristor is the one whose firing point is nearest ahead. PHASE_BACK_END (R173): with the block timer at 0 the
rectifier enters SOFT_START from α_block, with PHASE_BACK value 0. Nothing else changes. (Each row as one command: log
1.) -/
def Obligations.RectifierRunsAndEndsPhaseBack : Prop :=
  (∀ s : State, s.AtRest → s.Roomy → s.rcu.state = .blocked → s.rcu.sync.valid = true →
     (s.breaker 6).position = .closed → s.busOut.quality = .valid →
     (∀ (st : RcuState) (code : Int) (alpha : Nat),
       ((∃ g, s.su.inUse = some g) ∧ st = .softStart ∧ code = 1 ∧ alpha = s.rect.aMax) ∨
         (s.su.inUse = none ∧ s.su.reason = .scrub ∧ st = .fixed ∧ code = 4 ∧ alpha = fallbackAlpha s.straps) →
       (∀ n, forward (firingPoint n alpha) s.phaseCounter ≠ 0) →
       ∃ t n, exec .rectRun s = .next t ∧
         (∀ m, forward (firingPoint n alpha) s.phaseCounter ≤ forward (firingPoint m alpha) s.phaseCounter) ∧
         Logged [⟨.rectifier, 0, .rectRun, 1, some code⟩] (s.onRcu fun u => { u with
           state := st, alpha := alpha, pendingThy := some n, point := firingPoint n alpha }) t) ∧
     (s.su.inUse = none → s.su.reason = .powerOn → exec .rectRun s = .next s)) ∧
  (∀ s : State, s.AtRest → s.Roomy → s.rcu.state = .phaseBack → s.rcu.blockTimer = 0 →
     ∃ t, exec .phaseBackEnd s = .next t ∧ Logged [⟨.rectifier, 0, .phaseBack, 1, some 0⟩]
       (s.onRcu fun u => { u with state := .softStart, alpha := s.rect.aBlock }) t)

/-- FRAME: the regulation of a frame that ends in SOFT_START or REGULATING, with no telegram in hand (R169, R170),
after the rows of the frame are applied (log 15): U_ref from the setpoint and the load compensation, at most
U_ref_max; the integrator, held at an angle limit that the error would drive further, clamped to 0 to 1024 U_d0; the
voltage demand, the current limit, and the lesser of the two as V_d; the computed angle from the firing law,
interpolated between its 65 points and clamped to α_min to α_max. In BLOCKED, PHASE_BACK and FIXED the computed angle
stays (R169), and U_ref and V_d keep the values of the last regulation (log 44). -/
def Obligations.RegulationFollowsTheFiringLaw : Prop :=
  ∀ (s t : State) (inp : FrameInput), s.scu.job = none → exec (.frame inp) s = .next t →
    (t.rcu.state = .blocked ∨ t.rcu.state = .phaseBack ∨ t.rcu.state = .fixed →
      t.rcu.calcAlpha = s.rcu.calcAlpha ∧ t.rcu.uref = s.rcu.uref ∧ t.rcu.vd = s.rcu.vd) ∧
    ∀ (e a law : Int) (x r : Nat), (t.rcu.state = .softStart ∨ t.rcu.state = .regulating) →
      e = t.rcu.uref - t.uBus →
      a = (if (t.rcu.alpha = t.rect.aMin ∧ 0 < e) ∨ (t.rcu.alpha = t.rect.aMax ∧ e < 0) then s.rcu.integ
        else clampInt 0 (1024 * t.rect.ud0) (s.rcu.integ + t.rect.ki * e)) →
      x = 64 * t.rcu.vd / t.rect.ud0 → r = 64 * t.rcu.vd - x * t.rect.ud0 →
      law = (if x = 64 then (lawAt t.su.inUse 64 : Int)
        else lawAt t.su.inUse x +
          (((lawAt t.su.inUse (x + 1) : Int) - lawAt t.su.inUse x) * r).tdiv t.rect.ud0) →
      t.rcu.uref = min (t.rect.uRefMax : Int) (t.rcu.uset + ((t.rect.kc : Int) * t.iRect).tdiv 1000) ∧
      t.rcu.integ = a ∧
      (t.rcu.vd : Int) = max 0 (min (clampInt 0 t.rect.ud0 (((t.rect.kp : Int) * e).tdiv 16 + a.tdiv 1024))
        (if (t.rect.iLim : Int) < t.iRect then
          max 0 (t.uBus - ((t.rect.kl : Int) * (t.iRect - t.rect.iLim)).tdiv 1000)
         else t.rect.ud0)) ∧
      (t.rcu.calcAlpha : Int) = max 0 (clampInt t.rect.aMin t.rect.aMax law)

/-- RECT_OVL (R176) and OVERVOLT_ROW (R179): the frame that brings the count to its time raises the row once, with the
current or the voltage, and sets the flags; the pickup event comes with it where the flag was clear. CHOPPER_BLOCK_END
(R177, R178): at the end of the block the energy image, with the frame's energy where the gate is ON, falls by the
fraction 1 / (100 τ); the inhibition begins at E_max and ends at half of it, with CHOPPER_INHIBIT; the gate of the
next frame follows the bus voltage, and is OFF while inhibited or INVALID. Nothing else changes. (Each row as one
command: log 1; the trips of a row release the close channels of their breakers: log 39.) -/
def Obligations.OverloadOvervoltageAndChopper : Prop :=
  (∀ s : State, s.AtRest → s.Roomy →
     (s.iRectUsable = true → (s.rect.iOvl : Int) ≤ s.iRect → s.rect.tOvl ≤ s.rcu.ovl.count + 1 →
       s.rcu.ovl.raised = false →
       ∃ t, exec .rectOvl s = .next t ∧
         RowTaken 38 s.iRect (s.onRcu fun u => { u with ovl := ⟨s.rect.tOvl, true, true⟩ }) t ∧
         (s.rcu.ovl.pickup = false → ∃ x ∈ t.eru.queue, x.msg = ⟨.rectifier, 0, .overload, 2, some s.iRect⟩)) ∧
     (s.busOut.quality ≠ .invalid → (s.rect.uOvp : Int) ≤ s.uBus → (s.rect.uChOff : Int) ≤ s.uBus →
       s.rect.tOvp ≤ s.rcu.ovp.count + 1 → s.rcu.ovp.raised = false →
       ∃ t, exec .overvoltRow s = .next t ∧
         RowTaken 39 s.uBus (s.onRcu fun u => { u with ovp := ⟨s.rect.tOvp, true, true⟩ }) t ∧
         (s.rcu.ovp.pickup = false → ∃ x ∈ t.eru.queue, x.msg = ⟨.rectifier, 0, .overvolt, 2, some s.uBus⟩))) ∧
  (∀ (s : State) (e d : Nat) (inh gate : Bool), s.AtRest → s.Roomy → s.rcu.chopper.blockCount = 99 →
     e = s.rcu.chopper.energy + (if s.rcu.chopper.gate then s.uBus.natAbs * s.uBus.natAbs * 100 / s.rect.rCh else 0) →
     d = e - e / (100 * s.rect.tauCh) →
     inh = (if s.rcu.chopper.inhibited then decide (s.rect.eMax * 500 < d) else decide (s.rect.eMax * 1000 ≤ d)) →
     gate = (if s.busOut.quality = .invalid ∨ inh = true then false
       else if (s.rect.uChOn : Int) ≤ s.uBus then true
       else if s.uBus ≤ s.rect.uChOff then false else s.rcu.chopper.gate) →
     ∃ t, exec .chopperBlockEnd s = .next t ∧
       Logged (if inh = s.rcu.chopper.inhibited then []
           else [⟨.rectifier, 0, .chopperInhibit, 2, some (if inh then 1 else 0)⟩])
         (s.onRcu fun u => { u with chopper := ⟨gate, d, inh, 0⟩ }) t)

/-! ## Records and counters -/

/-- Counting of events (R198, R202, R203): an event adds one count to every counter in mode EVENTS whose entry it
qualifies for, and to no other; a count that carries out of bit 39 wraps the value and sets the overflow flag; action
FLAG holds a counter that has overflowed, a FROZEN bank holds all. FREEZE_BANK, EVENT and RECLOSE_BLOCK hand over
COUNTER_OVERFLOW with the wrapped value, RECLOSE_BLOCK blocks its feeder, FREEZE_BANK freezes the bank from the next
frame. BREAKER_DUTY (R200): an OPENED event of a breaker of the mask, with a value other than −1, adds the square of
its duty current over 10,000, by the threshold and the prescale of the counter. -/
def Obligations.EventsAreCounted : Prop :=
  (∀ (m : EventMsg) (s : State) (n : Fin 16), s.cb.counters[n].value < 2 ^ 40 →
    (s.cb.frozen = true → (countEvent m s).cb.counters[n] = s.cb.counters[n]) ∧
    (qualifies s n m = false → (m.code ≠ .opened ∨ counterField s n 0 ≠ 3 ∨ counterField s n 1 ≠ 4) →
      (countEvent m s).cb.counters[n] = s.cb.counters[n]) ∧
    (counterField s n 7 = 1 → s.cb.counters[n].overflow = true →
      (countEvent m s).cb.counters[n] = s.cb.counters[n]) ∧
    (s.cb.frozen = false → qualifies s n m = true →
      ¬ (counterField s n 7 = 1 ∧ s.cb.counters[n].overflow = true) →
      (countEvent m s).cb.counters[n].value = (s.cb.counters[n].value + 1) % 2 ^ 40 ∧
      (countEvent m s).cb.counters[n].overflow =
        (s.cb.counters[n].overflow || decide (s.cb.counters[n].value + 1 = 2 ^ 40)) ∧
      (countEvent m s).cb.counters[n].sub = s.cb.counters[n].sub ∧
      (s.cb.counters[n].value + 1 = 2 ^ 40 → 2 ≤ counterField s n 7 → counterField s n 7 ≤ 4 →
        (.cb, ⟨.counter, n.val, .counterOverflow, 2, some 0⟩) ∈ (countEvent m s).wires.events) ∧
      (s.cb.counters[n].value + 1 = 2 ^ 40 → counterField s n 7 = 2 →
        (countEvent m s).wires.freezeNext = true ∧ (freezeStep (countEvent m s)).cb.frozen = true) ∧
      (s.cb.counters[n].value + 1 = 2 ^ 40 → counterField s n 7 = 4 →
        (countEvent m s).cb.counters[n].block = true ∧
        (countEvent m s).cb.counters[n].blockFeeder = counterField s n 8)) ∧
    (∀ (b : Fin 7) (v : Int) (w p : Nat), m.code = .opened → m.kind = .breaker → m.index = b.val → m.value = some v →
      counterField s n 0 = 3 → counterField s n 1 = 4 → s.cb.frozen = false →
      ¬ (counterField s n 7 = 1 ∧ s.cb.counters[n].overflow = true) →
      w = s.cb.duty[b] * s.cb.duty[b] / 10000 → p = 2 ^ counterField s n 6 →
      (v < 0 ∨ maskBit s n b.val = false ∨ w < counterField s n 5 ∨ w = 0 →
        (countEvent m s).cb.counters[n] = s.cb.counters[n]) ∧
      (0 ≤ v → maskBit s n b.val = true → counterField s n 5 ≤ w → 1 ≤ w →
        (countEvent m s).cb.counters[n].value = (s.cb.counters[n].value + (s.cb.counters[n].sub + w) / p) % 2 ^ 40 ∧
        (countEvent m s).cb.counters[n].sub = (s.cb.counters[n].sub + w) % p ∧
        (countEvent m s).cb.counters[n].overflow = (s.cb.counters[n].overflow ||
          decide (2 ^ 40 ≤ s.cb.counters[n].value + (s.cb.counters[n].sub + w) / p)))))

/-- FRAME and the counters, with no telegram in hand. Mode FRAMES (R199): a counter counts a frame in which the
condition of its source holds, feeder current, bus voltage, chopper gate, event queue not empty or PHASE_BACK; on the
rising edge alone where its entry says so, against the condition of the frame before, which every frame keeps. Mode
ACCUMULATE (R200): a counter adds the frame's feeder currents, rectifier current or feeder power, 0 where it lies
below the threshold, through the remainder S of its prescale. A FROZEN bank and action FLAG hold the count (R202,
R203). Duty currents (R201): the duty current of a breaker under a trip is the greatest current since the trip began,
that of the frame of its end included (log 20); one that begins in this frame starts from this frame's; without a trip
it stays. -/
def Obligations.FramesAndValuesAreCounted : Prop :=
  ∀ (s t : State) (inp : FrameInput), s.scu.job = none → exec (.frame inp) s = .next t →
    (∀ (n : Fin 16) (old new : Counter) (holds : Bool), old = s.cb.counters[n] → new = t.cb.counters[n] →
      old.value < 2 ^ 40 →
      holds = (s.cb.frozen || (decide (counterField s n 7 = 1) && old.overflow)) →
      (∀ c : Bool, counterField s n 0 = 2 →
        (c = true ↔
          (counterField s n 1 = 1 ∧ ∃ k : Fin 6, maskBit s n k.val = true ∧ (t.currentOut k).quality ≠ .invalid ∧
            (counterField s n 5 : Int) ≤ (t.currentOut k).value) ∨
          (maskBit s n 6 = true ∧
            ((counterField s n 1 = 2 ∧ t.busOut.quality ≠ .invalid ∧ (counterField s n 5 : Int) ≤ t.uBus) ∨
             (counterField s n 1 = 3 ∧ s.rcu.chopper.gate = true) ∨
             (counterField s n 1 = 4 ∧ s.eru.queue ≠ []) ∨
             (counterField s n 1 = 5 ∧ t.rcu.state = .phaseBack)))) →
        new.prev = c ∧ new.sub = old.sub ∧
        (holds = true ∨ c = false ∨ (counterField s n 4 = 1 ∧ old.prev = true) →
          new = { old with prev := c }) ∧
        (holds = false → c = true → ¬ (counterField s n 4 = 1 ∧ old.prev = true) →
          new.value = (old.value + 1) % 2 ^ 40 ∧
          new.overflow = (old.overflow || decide (old.value + 1 = 2 ^ 40)))) ∧
      (∀ v w p : Nat, counterField s n 0 = 3 →
        ((counterField s n 1 = 1 ∧ v = ((List.finRange 6).map fun k =>
            if maskBit s n k.val = false ∨ (t.currentOut k).quality = .invalid then 0
            else (t.currentOut k).value.natAbs).sum) ∨
         (counterField s n 1 = 2 ∧ v = (if maskBit s n 6 = true ∧ t.iRectUsable = true then t.iRect.toNat else 0)) ∨
         (counterField s n 1 = 3 ∧ v = ((List.finRange 6).map fun k =>
            if maskBit s n k.val = false ∨ (t.currentOut k).quality = .invalid ∨ (t.voltageOut k).quality = .invalid
            then 0 else (((t.voltageOut k).value * (t.currentOut k).value).tdiv 1000).toNat).sum)) →
        w = (if v < counterField s n 5 then 0 else v) → p = 2 ^ counterField s n 6 →
        (holds = true ∨ w = 0 → new = old) ∧
        (holds = false → w ≠ 0 →
          new.value = (old.value + (old.sub + w) / p) % 2 ^ 40 ∧ new.sub = (old.sub + w) % p ∧
          new.overflow = (old.overflow || decide (2 ^ 40 ≤ old.value + (old.sub + w) / p))))) ∧
    (∀ (b : Fin 7) (x : Nat),
      x = (if h : b.val < 6 then
          (if (t.currentOut ⟨b.val, h⟩).quality = .invalid then 0 else (t.currentOut ⟨b.val, h⟩).value.natAbs)
        else if t.iRectUsable = true then t.iRect.natAbs else 0) →
      ((s.breaker b).op = .tripping → t.cb.duty[b] = max s.cb.duty[b] x) ∧
      ((s.breaker b).op ≠ .tripping → (t.breaker b).op = .tripping → t.cb.duty[b] = x) ∧
      ((s.breaker b).op ≠ .tripping → (t.breaker b).tripTaken = false → t.cb.duty[b] = s.cb.duty[b]))

/-- A record that reaches the queue (R184, R185): with fewer than 128 records it is appended with the next sequence
number; a full queue gives up the oldest record of the greatest class where that class is greater than the record's,
and otherwise the record is discarded and the overflow flag set. The queue never exceeds 128 records. -/
def Obligations.FullQueueKeepsTheGraverRecords : Prop :=
  ∀ (now : Clock) (m : EventMsg) (e : Eru), e.queue.length ≤ 128 → ∃ e', e.append now m = e' ∧
    e'.queue.length ≤ 128 ∧
    (e.queue.length < 128 → e'.queue = e.queue ++ [⟨e.next, now, m, false⟩] ∧ e'.next = (e.next + 1) % 65536 ∧
      e'.overflow = e.overflow) ∧
    (e.queue.length = 128 → (∀ r ∈ e.queue, r.msg.cls ≤ m.cls) →
      e'.queue = e.queue ∧ e'.next = e.next ∧ e'.overflow = true ∧ e'.discarded = true) ∧
    (e.queue.length = 128 → (∃ r ∈ e.queue, m.cls < r.msg.cls) →
      ∃ pre r post, e.queue = pre ++ r :: post ∧ m.cls < r.msg.cls ∧ (∀ x ∈ e.queue, x.msg.cls ≤ r.msg.cls) ∧
        (∀ x ∈ pre, x.msg.cls ≠ r.msg.cls) ∧ e'.queue = pre ++ post ++ [⟨e.next, now, m, false⟩] ∧
        e'.next = (e.next + 1) % 65536 ∧ e'.overflow = e.overflow)

/-- FRAME: the recorder, with no telegram in hand (R46, R190). A buffer in CAPTURE or POST whose decimation count is 0
writes one entry at its write index: the output of each channel of its programme, clamped to −32767 to 32767, 8000h
for INVALID; the OC, RR and TH trip flags of the six feeders and the positions of the seven breakers as its status
word. The index advances, wrapping from 2047, and the count of entries grows to at most 2048. At any other count no
entry is written. The count runs through the decimation. A HELD buffer stays as it is. -/
def Obligations.FrameRecordsAnEntry : Prop :=
  ∀ (s t : State) (inp : FrameInput) (i : Fin 2) (old new : RecBuffer), s.scu.job = none →
    exec (.frame inp) s = .next t → old = s.eru.buffers[i] → new = t.eru.buffers[i] →
    (old.state = .held → new = old) ∧
    (old.state = .capture ∨ old.state = .post →
      new.programme = old.programme ∧
      new.decim = (if old.programme[8].toNat ≤ old.decim + 1 then 0 else old.decim + 1) ∧
      (old.decim ≠ 0 → new.ring = old.ring ∧ new.write = old.write ∧ new.written = old.written) ∧
      (old.decim = 0 → new.write = (old.write + 1) % 2048 ∧ new.written = min 2048 (old.written + 1) ∧
        (∀ j : Fin 2048, j.val ≠ old.write → new.ring[j] = old.ring[j]) ∧
        ∀ j : Fin 2048, j.val = old.write →
          (∀ (m : Fin 8) (x : Output), x = t.output (channelNo old.programme[m.val].toNat) →
            new.ring[j].vals[m] =
              (if x.quality = .invalid then 0x8000
               else BitVec.ofInt 16 (if x.value < -32767 then -32767 else if 32767 < x.value then 32767
                 else x.value))) ∧
          (∀ k : Fin 6, new.ring[j].status.getLsbD k.val = (t.feeder k).ocTripped ∧
            new.ring[j].status.getLsbD (6 + k.val) = ((t.feeder k).rr == .tripped) ∧
            new.ring[j].status.getLsbD (12 + k.val) = (t.feeder k).thTripped) ∧
          ∀ b : Fin 7,
            new.ring[j].status.getLsbD (18 + 2 * b.val) = ((t.breaker b).position == .closed ||
              (t.breaker b).position == .discrepant || (t.breaker b).position == .unknown) ∧
            new.ring[j].status.getLsbD (19 + 2 * b.val) = ((t.breaker b).position == .travel ||
              (t.breaker b).position == .discrepant || (t.breaker b).position == .unknown)))

/-! ## Invariants -/

/-- Every step keeps the ranges of the counts: the clock, the event queue of at most 128 records, the sequence number,
the 40-bit counters, the indication counts, the blind time (R7, R17, R18, R37, R184, R197), and hands no signal on the
wires from one command to the next. -/
def Obligations.StepKeepsTheRanges : Prop := ∀ s t : State, s.InRange → step s = .next t → t.InRange

/-- Every step keeps a thyristor pending exactly while the rectifier is not BLOCKED, and the chopper OFF while
inhibited (R165, R166, R177). Every step keeps the group in use ACTIVE, no other group ACTIVE, and a group under
verification VERIFYING (R90, R96, R99). No step leaves the trip and the close channel of a breaker both energised
(R122; that a trip releases a close channel left in PEAK is log 39). -/
def Obligations.StepKeepsStatesInAgreement : Prop :=
  (∀ s t : State, s.FiringAgrees → step s = .next t → t.FiringAgrees) ∧
  (∀ s t : State, s.GroupsAgree → step s = .next t → t.GroupsAgree) ∧
  (∀ s t : State, s.CoilsApart → step s = .next t → t.CoilsApart)

/-- FRAME, from any state, leaves the device at rest: no signal on the wires, no START left to append, no operation
left to end. Every step but a POWER_ON leaves a state at rest at rest; a POWER_ON leaves its START record for the
first frame. -/
def Obligations.EveryFrameAndStepLeavesTheDeviceAtRest : Prop :=
  (∀ (s t : State) (inp : FrameInput), exec (.frame inp) s = .next t → t.AtRest) ∧
  (∀ s t : State, s.AtRest → (∀ p rest, s.pending ≠ .powerOn p :: rest) → step s = .next t → t.AtRest)

/-- The reset state meets the invariants. -/
def Obligations.ResetMeetsTheInvariants : Prop :=
  State.reset.InRange ∧ State.reset.FiringAgrees ∧ State.reset.GroupsAgree ∧ State.reset.CoilsApart ∧
    State.reset.Settled
end

