-- ==== Sys2Proof/Laws/Footprint.lean ====
section
/-! SUPPORT. The footprint of each shared operation: whatever a reading `p` of the state does not see of the blocks an
operation works on, the operation leaves as it was. The hypotheses of a lemma are the operation's footprint. -/

namespace Sys2Proof.Machine

/-- The reading does not see `sbi`. -/
abbrev UnseenSbi (p : State → α) : Prop := ∀ (s : State) (f : Sbi → Sbi), p (s.onSbi f) = p s

/-- The reading does not see `scu`. -/
abbrev UnseenScu (p : State → α) : Prop := ∀ (s : State) (f : Scu → Scu), p (s.onScu f) = p s

/-- The reading does not see `mu`. -/
abbrev UnseenMu (p : State → α) : Prop := ∀ (s : State) (f : Vector Channel 32 → Vector Channel 32), p (s.onMu f) = p s

/-- The reading does not see `fpu`. -/
abbrev UnseenFpu (p : State → α) : Prop := ∀ (s : State) (f : Fpu → Fpu), p (s.onFpu f) = p s

/-- The reading does not see `su`. -/
abbrev UnseenSu (p : State → α) : Prop := ∀ (s : State) (f : Su → Su), p (s.onSu f) = p s

/-- The reading does not see `bdu`. -/
abbrev UnseenBdu (p : State → α) : Prop := ∀ (s : State) (f : Bdu → Bdu), p (s.onBdu f) = p s

/-- The reading does not see `rcl`. -/
abbrev UnseenRcl (p : State → α) : Prop := ∀ (s : State) (f : Vector Seq 6 → Vector Seq 6), p (s.onRcl f) = p s

/-- The reading does not see `rcu`. -/
abbrev UnseenRcu (p : State → α) : Prop := ∀ (s : State) (f : Rcu → Rcu), p (s.onRcu f) = p s

/-- The reading does not see `eru`. -/
abbrev UnseenEru (p : State → α) : Prop := ∀ (s : State) (f : Eru → Eru), p (s.onEru f) = p s

/-- The reading does not see `cb`. -/
abbrev UnseenCb (p : State → α) : Prop := ∀ (s : State) (f : Cb → Cb), p (s.onCb f) = p s

/-- The reading does not see `wires`. -/
abbrev UnseenWires (p : State → α) : Prop := ∀ (s : State) (f : Wires → Wires), p (s.onWires f) = p s

/-- The reading does not see the count of free choices. -/
abbrev UnseenFree (p : State → α) : Prop := ∀ (s : State) (n : Nat), p { s with free := n } = p s

/-- The reading does not see the 1 µs timer. -/
abbrev UnseenTimer (p : State → α) : Prop := ∀ (s : State) (n : Nat), p { s with timer := n } = p s

/-- The reading does not see the stamps of the vectors. -/
abbrev UnseenStamp (p : State → α) : Prop :=
  ∀ (s : State) (a b : Nat), p { s with prevStamp := a, stamp := b } = p s

/-- The reading does not see whether a frame has been worked. -/
abbrev UnseenFresh (p : State → α) : Prop := ∀ (s : State) (b : Bool), p { s with fresh := b } = p s

variable {α : Type} {p : State → α}

/-- An operation for each index keeps what each of its turns keeps. -/
theorem forAll_keeps {σ β : Type} (p : σ → β) {n : Nat} {f : Fin n → σ → σ} (h : ∀ i s, p (f i s) = p s) (s : σ) :
    p (forAll n f s) = p s := by
  unfold forAll
  generalize List.finRange n = l
  induction l generalizing s with
  | nil => rfl
  | cons i l ih => exact (ih _).trans (h i s)

/-- A fold keeps what each of its turns keeps. -/
theorem foldl_keeps {σ β γ : Type} (p : σ → β) {f : σ → γ → σ} (h : ∀ s x, p (f s x) = p s) (l : List γ) (s : σ) :
    p (l.foldl f s) = p s := by
  induction l generalizing s with
  | nil => rfl
  | cons i l ih => exact (ih _).trans (h s i)

theorem onFeeder_keeps (hfpu : UnseenFpu p) (s : State) (k : Fin 6) (f : Feeder → Feeder) :
    p (State.onFeeder s k f) = p s := by
  unfold State.onFeeder
  simp only [hfpu]

theorem onDrive_keeps (hbdu : UnseenBdu p) (s : State) (c : Fin 20) (f : Drive → Drive) :
    p (State.onDrive s c f) = p s := by
  unfold State.onDrive
  simp only [hbdu]

theorem onBreaker_keeps (hbdu : UnseenBdu p) (s : State) (b : Fin 7) (f : Breaker → Breaker) :
    p (State.onBreaker s b f) = p s := by
  unfold State.onBreaker
  simp only [hbdu]

theorem onSeq_keeps (hrcl : UnseenRcl p) (s : State) (k : Fin 6) (f : Seq → Seq) :
    p (State.onSeq s k f) = p s := by
  unfold State.onSeq
  simp only [hrcl]

theorem emit_keeps (hwires : UnseenWires p) (b : Block) (m : EventMsg) (s : State) :
    p (emit b m s) = p s := by
  unfold emit
  simp only [hwires]

theorem emitAll_keeps (hwires : UnseenWires p) (b : Block) (ms : List EventMsg) (s : State) :
    p (emitAll b ms s) = p s := by
  unfold emitAll
  simp only [hwires]

theorem raiseRow_keeps (hwires : UnseenWires p) (r : Fin 40) (value : Int) (s : State) :
    p (raiseRow r value s) = p s := by
  unfold raiseRow
  simp only [hwires]

theorem measure_keeps (hmu : UnseenMu p) (raws : Fin 32 → Raw) (s : State) :
    p (measure raws s) = p s := by
  unfold measure
  simp only [hmu]

theorem measureOne_keeps (hmu : UnseenMu p) (c : Fin 32) (raw : Raw) (s : State) :
    p (measureOne c raw s) = p s := by
  unfold measureOne
  simp only [hmu]

theorem syncStep_keeps (hsbi : UnseenSbi p) (hwires : UnseenWires p) (inp : FrameInput) (s : State) :
    p (syncStep inp s) = p s := by
  unfold syncStep
  split <;> simp only [hsbi, emitAll_keeps hwires]

theorem raiseBusLost_keeps (hsbi : UnseenSbi p) (hwires : UnseenWires p) (s : State) :
    p (raiseBusLost s) = p s := by
  unfold raiseBusLost
  simp only [hsbi, raiseRow_keeps hwires]

theorem blindCheck_keeps (hsbi : UnseenSbi p) (hwires : UnseenWires p) (s : State) :
    p (blindCheck s) = p s := by
  unfold blindCheck
  split <;> simp only [raiseBusLost_keeps hsbi hwires]

theorem checkSlot_keeps (hsbi : UnseenSbi p) (hwires : UnseenWires p) (i : Fin 48) (w : SlotWord) (s : State) :
    p (checkSlot i w s) = p s := by
  unfold checkSlot
  dsimp only
  (repeat' split) <;> simp only [hsbi, emit_keeps hwires]

theorem checkSlots_keeps (hsbi : UnseenSbi p) (hwires : UnseenWires p) (inp : FrameInput) (s : State) :
    p (checkSlots inp s) = p s := by
  unfold checkSlots
  simp only [checkSlot_keeps hsbi hwires, forAll_keeps p, implies_true, apply_ite p, ite_self]

theorem indicationStep_keeps (hsbi : UnseenSbi p) (hwires : UnseenWires p) (v : Option Word) (i : Fin 16)
    (s : State) :
    p (indicationStep v i s) = p s := by
  unfold indicationStep
  dsimp only
  (repeat' split) <;> simp only [hsbi, emit_keeps hwires]

theorem indicationsStep_keeps (hsbi : UnseenSbi p) (hwires : UnseenWires p) (inp : FrameInput) (s : State) :
    p (indicationsStep inp s) = p s := by
  unfold indicationsStep
  simp only [indicationStep_keeps hsbi hwires, forAll_keeps p, implies_true]

theorem holdMasterStatus_keeps (hsbi : UnseenSbi p) (inp : FrameInput) (s : State) :
    p (holdMasterStatus inp s) = p s := by
  unfold holdMasterStatus
  dsimp only
  (repeat' split) <;> simp only [hsbi]

theorem transmit_keeps (hsbi : UnseenSbi p) (commands : Vector Word 16) (service : Word) (s : State) :
    p (transmit commands service s) = p s := by
  unfold transmit
  simp only [hsbi]

theorem setCommandBit_keeps (hsbi : UnseenSbi p) (word bit : Nat) (v : Bool) (s : State) :
    p (setCommandBit word bit v s) = p s := by
  unfold setCommandBit
  simp only [hsbi]

theorem changeOwners_keeps (hsbi : UnseenSbi p) (old : Option InUse) (s : State) :
    p (changeOwners old s) = p s := by
  unfold changeOwners
  simp only [hsbi]

theorem storeSlotMap_keeps (hsbi : UnseenSbi p) (hmu : UnseenMu p) (first count : Nat) (ws : List Word) (s : State) :
    p (storeSlotMap first count ws s) = p s := by
  unfold storeSlotMap
  simp only [hsbi, hmu]

theorem storeMasks_keeps (hsbi : UnseenSbi p) (first : Nat) (ws : List Word) (s : State) :
    p (storeMasks first ws s) = p s := by
  unfold storeMasks
  simp only [hsbi]

theorem clockStep_keeps (hscu : UnseenScu p) (s : State) :
    p (clockStep s) = p s := by
  unfold clockStep
  simp only [hscu]

theorem setReply_keeps (hscu : UnseenScu p) (r : Reply) (s : State) :
    p (setReply r s) = p s := by
  unfold setReply
  simp only [hscu]

theorem refuseWith_keeps (hscu : UnseenScu p) (echo : Byte) (r : Result) (s : State) :
    p (refuseWith echo r s) = p s := by
  unfold refuseWith
  simp only [setReply_keeps hscu]

theorem handOver_keeps (hscu : UnseenScu p) (q : Request) (s : State) :
    p (handOver q s) = p s := by
  unfold handOver
  simp only [hscu]

theorem completeTelegram_keeps (hscu : UnseenScu p) (bytes : List Byte) (s : State) :
    p (completeTelegram bytes s) = p s := by
  unfold completeTelegram
  split <;> simp only [hscu, refuseWith_keeps hscu, handOver_keeps hscu]

theorem appendByte_keeps (hscu : UnseenScu p) (data : Byte) (s : State) :
    p (appendByte data s) = p s := by
  unfold appendByte
  dsimp only
  (repeat' split) <;> simp only [hscu, refuseWith_keeps hscu, completeTelegram_keeps hscu]

theorem assemble_keeps (hscu : UnseenScu p) (data : Byte) (sot : Bool) (s : State) :
    p (assemble data sot s) = p s := by
  unfold assemble
  (repeat' split) <;> first | rfl | simp only [hscu, appendByte_keeps hscu]

theorem takeOffered_keeps (hscu : UnseenScu p) (data : Byte) (sot : Bool) (s : State) :
    p (takeOffered data sot s) = p s := by
  unfold takeOffered
  simp only [hscu, assemble_keeps hscu]

theorem gapDiscard_keeps (hscu : UnseenScu p) (s : State) :
    p (gapDiscard s) = p s := by
  unfold gapDiscard
  split <;> simp only [hscu]

theorem gapStep_keeps (hscu : UnseenScu p) (s : State) :
    p (gapStep s) = p s := by
  unfold gapStep
  split <;> simp only [hscu, gapDiscard_keeps hscu]

theorem abortReceived_keeps (hscu : UnseenScu p) (wv : Bool) (s : State) :
    p (abortReceived wv s) = p s := by
  unfold abortReceived
  simp only [hscu]

theorem receiveDown_keeps (hscu : UnseenScu p) (word : Option ServiceWord) (s : State) :
    p (receiveDown word s) = p s := by
  unfold receiveDown
  dsimp only
  (repeat' split) <;> simp only [hscu, takeOffered_keeps hscu, gapStep_keeps hscu, abortReceived_keeps hscu]

theorem startReply_keeps (hscu : UnseenScu p) (r : Reply) (s : State) :
    p (startReply r s) = p s := by
  unfold startReply
  simp only [hscu]

theorem startEvent_keeps (hscu : UnseenScu p) (heru : UnseenEru p) (s : State) :
    p (startEvent s) = p s := by
  unfold startEvent
  simp only [hscu, heru]

theorem upStart_keeps (hscu : UnseenScu p) (heru : UnseenEru p) (s : State) :
    p (upStart s) = p s := by
  unfold upStart
  (repeat' split) <;> first | rfl | simp only [startReply_keeps hscu, startEvent_keeps hscu heru]

theorem presentByte_keeps (hscu : UnseenScu p) (s : State) :
    p (presentByte s) = p s := by
  unfold presentByte
  split <;> simp only [hscu]

theorem endAbort_keeps (hscu : UnseenScu p) (s : State) :
    p (endAbort s) = p s := by
  unfold endAbort
  simp only [hscu]

theorem abortStep_keeps (hscu : UnseenScu p) (s : State) :
    p (abortStep s) = p s := by
  unfold abortStep
  split <;> simp only [hscu, endAbort_keeps hscu]

theorem upComplete_keeps (hscu : UnseenScu p) (heru : UnseenEru p) (kind : UpKind) (s : State) :
    p (upComplete kind s) = p s := by
  unfold upComplete
  split <;> simp only [hscu, heru]

theorem upTaken_keeps (hscu : UnseenScu p) (heru : UnseenEru p) (s : State) :
    p (upTaken s) = p s := by
  unfold upTaken
  dsimp only
  (repeat' split) <;> simp only [hscu, upComplete_keeps hscu heru]

theorem receiveAck_keeps (hscu : UnseenScu p) (heru : UnseenEru p) (word : Option ServiceWord) (aborted : Bool)
    (s : State) :
    p (receiveAck word aborted s) = p s := by
  unfold receiveAck
  dsimp only
  (repeat' split) <;> simp only [hscu, upTaken_keeps hscu heru]

theorem scuRestart_keeps (hscu : UnseenScu p) (heru : UnseenEru p) (s : State) :
    p (scuRestart s) = p s := by
  unfold scuRestart
  simp only [hscu, heru]

theorem loadClock_keeps (hscu : UnseenScu p) (day : Word) (ms : BitVec 32) (s : State) :
    p (loadClock day ms s) = p s := by
  unfold loadClock
  simp only [hscu]

theorem raiseFeederRow_keeps (hwires : UnseenWires p) (k : Fin 6) (e : FeederRow) (s : State) :
    p (raiseFeederRow k e s) = p s := by
  unfold raiseFeederRow
  simp only [raiseRow_keeps hwires]

theorem intertripStep_keeps (hfpu : UnseenFpu p) (hwires : UnseenWires p) (k : Fin 6) (s : State) :
    p (intertripStep k s) = p s := by
  unfold intertripStep
  dsimp only
  (repeat' split) <;> simp only [onFeeder_keeps hfpu, raiseFeederRow_keeps hwires]

theorem ocStep_keeps (hfpu : UnseenFpu p) (hwires : UnseenWires p) (k : Fin 6) (s : State) :
    p (ocStep k s) = p s := by
  unfold ocStep
  dsimp only
  (repeat' split) <;> simp only [onFeeder_keeps hfpu, raiseFeederRow_keeps hwires]

theorem rrStep_keeps (hfpu : UnseenFpu p) (hwires : UnseenWires p) (k : Fin 6) (s : State) :
    p (rrStep k s) = p s := by
  unfold rrStep
  dsimp only
  (repeat' split) <;> simp only [onFeeder_keeps hfpu, emit_keeps hwires, raiseFeederRow_keeps hwires]

theorem closeBlockStep_keeps (hfpu : UnseenFpu p) (k : Fin 6) (s : State) :
    p (closeBlockStep k s) = p s := by
  unfold closeBlockStep
  simp only [onFeeder_keeps hfpu]

theorem thermalEnd_keeps (hfpu : UnseenFpu p) (hwires : UnseenWires p) (k : Fin 6) (s : State) :
    p (thermalEnd k s) = p s := by
  unfold thermalEnd
  dsimp only
  (repeat' split) <;> simp only [onFeeder_keeps hfpu, emit_keeps hwires, raiseFeederRow_keeps hwires]

theorem thermalSum_keeps (hfpu : UnseenFpu p) (k : Fin 6) (s : State) :
    p (thermalSum k s) = p s := by
  unfold thermalSum
  simp only [onFeeder_keeps hfpu]

theorem thermalBlockEnd_keeps (hfpu : UnseenFpu p) (hwires : UnseenWires p) (s : State) :
    p (thermalBlockEnd s) = p s := by
  unfold thermalBlockEnd
  simp only [hfpu, thermalEnd_keeps hfpu hwires, forAll_keeps p, implies_true]

theorem thermalStep_keeps (hfpu : UnseenFpu p) (hwires : UnseenWires p) (s : State) :
    p (thermalStep s) = p s := by
  unfold thermalStep
  simp only [hfpu, thermalSum_keeps hfpu, thermalBlockEnd_keeps hfpu hwires, forAll_keeps p, implies_true,
      apply_ite p, ite_self]

theorem uvStep_keeps (hfpu : UnseenFpu p) (hwires : UnseenWires p) (k : Fin 6) (s : State) :
    p (uvStep k s) = p s := by
  unfold uvStep
  dsimp only
  (repeat' split) <;> simp only [onFeeder_keeps hfpu, emit_keeps hwires, raiseFeederRow_keeps hwires]

theorem historyStep_keeps (hfpu : UnseenFpu p) (k : Fin 6) (s : State) :
    p (historyStep k s) = p s := by
  unfold historyStep
  simp only [onFeeder_keeps hfpu]

theorem fpuFrame_keeps (hfpu : UnseenFpu p) (hwires : UnseenWires p) (s : State) :
    p (fpuFrame s) = p s := by
  unfold fpuFrame
  simp only [intertripStep_keeps hfpu hwires, ocStep_keeps hfpu hwires, rrStep_keeps hfpu hwires,
      thermalStep_keeps hfpu hwires, uvStep_keeps hfpu hwires, historyStep_keeps hfpu, forAll_keeps p,
      implies_true]

theorem setService_keeps (hfpu : UnseenFpu p) (k : Fin 6) (out : Bool) (s : State) :
    p (setService k out s) = p s := by
  unfold setService
  simp only [onFeeder_keeps hfpu]

theorem setLatch_keeps (hbdu : UnseenBdu p) (b : Fin 7) (f : Latches → Latches) (s : State) :
    p (setLatch b f s) = p s := by
  unfold setLatch
  simp only [onBreaker_keeps hbdu]

theorem endClose_keeps (hbdu : UnseenBdu p) (hwires : UnseenWires p) (b : Fin 7) (o : CloseOutcome) (s : State) :
    p (endClose b o s) = p s := by
  unfold endClose
  split <;> simp only [hwires, onBreaker_keeps hbdu]

theorem reportRelease_keeps (hwires : UnseenWires p) (k : Fin 6) (s : State) :
    p (reportRelease k s) = p s := by
  unfold reportRelease
  simp only [hwires]

theorem reportHeld_keeps (hwires : UnseenWires p) (k : Fin 6) (s : State) :
    p (reportHeld k s) = p s := by
  unfold reportHeld
  simp only [hwires]

theorem coilFault_keeps (hbdu : UnseenBdu p) (hwires : UnseenWires p) (c : Fin 20) (s : State) :
    p (coilFault c s) = p s := by
  unfold coilFault
  (repeat' split) <;> first | rfl | simp only [endClose_keeps hbdu hwires, reportRelease_keeps hwires]

theorem peakSeen_keeps (hbdu : UnseenBdu p) (hwires : UnseenWires p) (c : Fin 20) (s : State) :
    p (peakSeen c s) = p s := by
  unfold peakSeen
  dsimp only
  (repeat' split) <;> simp only [onDrive_keeps hbdu, reportHeld_keeps hwires]

theorem peakExpired_keeps (hbdu : UnseenBdu p) (hwires : UnseenWires p) (c : Fin 20) (s : State) :
    p (peakExpired c s) = p s := by
  unfold peakExpired
  simp only [onDrive_keeps hbdu, emit_keeps hwires, setLatch_keeps hbdu, coilFault_keeps hbdu hwires]

theorem coilLost_keeps (hbdu : UnseenBdu p) (hwires : UnseenWires p) (c : Fin 20) (s : State) :
    p (coilLost c s) = p s := by
  unfold coilLost
  simp only [onDrive_keeps hbdu, emit_keeps hwires, setLatch_keeps hbdu, coilFault_keeps hbdu hwires]

theorem floorSampled_keeps (hbdu : UnseenBdu p) (hwires : UnseenWires p) (c : Fin 20) (high : Bool) (s : State) :
    p (floorSampled c high s) = p s := by
  unfold floorSampled
  dsimp only
  (repeat' split) <;> simp only [onDrive_keeps hbdu, coilLost_keeps hbdu hwires]

theorem holdExpiry_keeps (hbdu : UnseenBdu p) (hwires : UnseenWires p) (c : Fin 20) (s : State) :
    p (holdExpiry c s) = p s := by
  unfold holdExpiry
  dsimp only
  (repeat' split) <;> simp only [onDrive_keeps hbdu, emit_keeps hwires, setLatch_keeps hbdu, endClose_keeps hbdu hwires,
      reportRelease_keeps hwires]

theorem pulseEnd_keeps (hbdu : UnseenBdu p) (hwires : UnseenWires p) (c : Fin 20) (s : State) :
    p (pulseEnd c s) = p s := by
  unfold pulseEnd
  split <;> simp only [emit_keeps hwires, setLatch_keeps hbdu]

theorem holdTick_keeps (hbdu : UnseenBdu p) (hwires : UnseenWires p) (c : Fin 20) (floor : Bool) (s : State) :
    p (holdTick c floor s) = p s := by
  unfold holdTick
  dsimp only
  (repeat' split) <;> simp only [floorSampled_keeps hbdu hwires, holdExpiry_keeps hbdu hwires]

theorem checkTick_keeps (hbdu : UnseenBdu p) (hwires : UnseenWires p) (c : Fin 20) (floor : Bool) (s : State) :
    p (checkTick c floor s) = p s := by
  unfold checkTick
  dsimp only
  (repeat' split) <;> simp only [onDrive_keeps hbdu, pulseEnd_keeps hbdu hwires]

theorem driveTick_keeps (hbdu : UnseenBdu p) (hwires : UnseenWires p) (m : Micro) (c : Fin 20) (s : State) :
    p (driveTick m c s) = p s := by
  unfold driveTick
  dsimp only
  (repeat' split) <;> simp only [onDrive_keeps hbdu, peakSeen_keeps hbdu hwires, peakExpired_keeps hbdu hwires,
      holdTick_keeps hbdu hwires, checkTick_keeps hbdu hwires]

theorem drivesTick_keeps (hbdu : UnseenBdu p) (hwires : UnseenWires p) (m : Micro) (s : State) :
    p (drivesTick m s) = p s := by
  unfold drivesTick
  simp only [driveTick_keeps hbdu hwires, forAll_keeps p, implies_true, apply_ite p, ite_self]

theorem drivesRun_keeps (hbdu : UnseenBdu p) (hwires : UnseenWires p) (ms : List Micro) (s : State) :
    p (drivesRun ms s) = p s := by
  unfold drivesRun
  simp only [drivesTick_keeps hbdu hwires, foldl_keeps p, implies_true]

theorem releaseUnlessOpen_keeps (hbdu : UnseenBdu p) (hwires : UnseenWires p) (k : Fin 6) (s : State) :
    p (releaseUnlessOpen k s) = p s := by
  unfold releaseUnlessOpen
  split <;> simp only [onDrive_keeps hbdu, reportRelease_keeps hwires]

theorem formPositions_keeps (hbdu : UnseenBdu p) (hwires : UnseenWires p) (s : State) :
    p (formPositions s) = p s := by
  unfold formPositions
  simp only [onBreaker_keeps hbdu, releaseUnlessOpen_keeps hbdu hwires, forAll_keeps p, implies_true]

theorem endOnTarget_keeps (hbdu : UnseenBdu p) (hwires : UnseenWires p) (b : Fin 7) (s : State) :
    p (endOnTarget b s) = p s := by
  unfold endOnTarget
  dsimp only
  (repeat' split) <;> simp only [hwires, onDrive_keeps hbdu, onBreaker_keeps hbdu, emit_keeps hwires]

theorem positionEvents_keeps (hwires : UnseenWires p) (b : Fin 7) (before now : Position) (s : State) :
    p (positionEvents b before now s) = p s := by
  unfold positionEvents
  (repeat' split) <;> first | rfl | simp only [emit_keeps hwires]

theorem settleBreaker_keeps (hbdu : UnseenBdu p) (hwires : UnseenWires p) (before : Position) (b : Fin 7)
    (s : State) :
    p (settleBreaker before b s) = p s := by
  unfold settleBreaker
  dsimp only
  (repeat' split) <;> simp only [onBreaker_keeps hbdu, endOnTarget_keeps hbdu hwires, positionEvents_keeps hwires]

theorem noteFitted_keeps (hbdu : UnseenBdu p) (b : Fin 7) (s : State) :
    p (noteFitted b s) = p s := by
  unfold noteFitted
  simp only [onBreaker_keeps hbdu]

theorem markMoved_keeps (hbdu : UnseenBdu p) (b : Fin 7) (s : State) :
    p (markMoved b s) = p s := by
  unfold markMoved
  simp only [onBreaker_keeps hbdu]

theorem startTrip_keeps (hbdu : UnseenBdu p) (hwires : UnseenWires p) (b : Fin 7) (s : State) :
    p (startTrip b s) = p s := by
  unfold startTrip
  simp only [hwires, onDrive_keeps hbdu, onBreaker_keeps hbdu]

theorem cutClose_keeps (hbdu : UnseenBdu p) (hwires : UnseenWires p) (b : Fin 7) (s : State) :
    p (cutClose b s) = p s := by
  unfold cutClose
  simp only [emit_keeps hwires, endClose_keeps hbdu hwires, startTrip_keeps hbdu hwires]

theorem tripRequest_keeps (hbdu : UnseenBdu p) (hwires : UnseenWires p) (b : Fin 7) (s : State) :
    p (tripRequest b s) = p s := by
  unfold tripRequest
  dsimp only
  (repeat' split) <;> simp only [onBreaker_keeps hbdu, startTrip_keeps hbdu hwires, cutClose_keeps hbdu hwires]

theorem startClose_keeps (hfpu : UnseenFpu p) (hbdu : UnseenBdu p) (b : Fin 7) (s : State) :
    p (startClose b s) = p s := by
  unfold startClose
  split <;> simp only [onFeeder_keeps hfpu, onDrive_keeps hbdu, onBreaker_keeps hbdu]

theorem startTest_keeps (hbdu : UnseenBdu p) (k : Fin 6) (s : State) :
    p (startTest k s) = p s := by
  unfold startTest
  simp only [onDrive_keeps hbdu]

theorem releaseTest_keeps (hbdu : UnseenBdu p) (k : Fin 6) (s : State) :
    p (releaseTest k s) = p s := by
  unfold releaseTest
  simp only [onDrive_keeps hbdu]

theorem breakerFailed_keeps (hbdu : UnseenBdu p) (hwires : UnseenWires p) (b : Fin 7) (s : State) :
    p (breakerFailed b s) = p s := by
  unfold breakerFailed
  dsimp only
  (repeat' split) <;> simp only [emit_keeps hwires, raiseRow_keeps hwires, setLatch_keeps hbdu]

theorem failureCheck_keeps (hbdu : UnseenBdu p) (hwires : UnseenWires p) (b : Fin 7) (s : State) :
    p (failureCheck b s) = p s := by
  unfold failureCheck
  dsimp only
  (repeat' split) <;> simp only [breakerFailed_keeps hbdu hwires]

theorem bduCounts_keeps (hbdu : UnseenBdu p) (s : State) :
    p (bduCounts s) = p s := by
  unfold bduCounts
  simp only [hbdu]

theorem noticeOpening_keeps (hwires : UnseenWires p) (b : Fin 7) (s : State) :
    p (noticeOpening b s) = p s := by
  unfold noticeOpening
  split <;> simp only [hwires]

theorem commandOpen_keeps (hbdu : UnseenBdu p) (hwires : UnseenWires p) (b : Fin 7) (s : State) :
    p (commandOpen b s) = p s := by
  unfold commandOpen
  simp only [tripRequest_keeps hbdu hwires, noticeOpening_keeps hwires]

theorem commandOpenAll_keeps (hbdu : UnseenBdu p) (hwires : UnseenWires p) (s0 : State) (s : State) :
    p (commandOpenAll s0 s) = p s := by
  unfold commandOpenAll
  simp only [commandOpen_keeps hbdu hwires, forAll_keeps p, implies_true, apply_ite p, ite_self]

theorem clearLatches_keeps (hbdu : UnseenBdu p) (hwires : UnseenWires p) (b : Fin 7) (s : State) :
    p (clearLatches b s) = p s := by
  unfold clearLatches
  dsimp only
  (repeat' split) <;> simp only [emit_keeps hwires, setLatch_keeps hbdu]

theorem bduRestart_keeps (hbdu : UnseenBdu p) (s : State) :
    p (bduRestart s) = p s := by
  unfold bduRestart
  simp only [hbdu]

theorem emitSeq_keeps (hwires : UnseenWires p) (k : Fin 6) (code : EventCode) (cls : Nat) (value : Int) (s : State) :
    p (emitSeq k code cls value s) = p s := by
  unfold emitSeq
  simp only [emit_keeps hwires]

theorem lockOut_keeps (hbdu : UnseenBdu p) (hrcl : UnseenRcl p) (hwires : UnseenWires p) (k : Fin 6)
    (reason : Cause) (s : State) :
    p (lockOut k reason s) = p s := by
  unfold lockOut
  split <;> simp only [onSeq_keeps hrcl, releaseTest_keeps hbdu, emitSeq_keeps hwires]

theorem nextAttempt_keeps (hrcl : UnseenRcl p) (hwires : UnseenWires p) (k : Fin 6) (s : State) :
    p (nextAttempt k s) = p s := by
  unfold nextAttempt
  simp only [onSeq_keeps hrcl, emitSeq_keeps hwires]

theorem attemptOrLockOut_keeps (hbdu : UnseenBdu p) (hrcl : UnseenRcl p) (hwires : UnseenWires p) (k : Fin 6)
    (s : State) :
    p (attemptOrLockOut k s) = p s := by
  unfold attemptOrLockOut
  split <;> simp only [lockOut_keeps hbdu hrcl hwires, nextAttempt_keeps hrcl hwires]

theorem enterPrecheck_keeps (hrcl : UnseenRcl p) (k : Fin 6) (s : State) :
    p (enterPrecheck k s) = p s := by
  unfold enterPrecheck
  simp only [onSeq_keeps hrcl]

theorem enterIdle_keeps (hrcl : UnseenRcl p) (k : Fin 6) (attempts : Nat) (s : State) :
    p (enterIdle k attempts s) = p s := by
  unfold enterIdle
  simp only [onSeq_keeps hrcl]

theorem requestTest_keeps (hbdu : UnseenBdu p) (hrcl : UnseenRcl p) (hwires : UnseenWires p) (k : Fin 6) (s : State) :
    p (requestTest k s) = p s := by
  unfold requestTest
  split <;> simp only [onSeq_keeps hrcl, startTest_keeps hbdu, lockOut_keeps hbdu hrcl hwires]

theorem requestClose_keeps (hfpu : UnseenFpu p) (hbdu : UnseenBdu p) (hrcl : UnseenRcl p) (hwires : UnseenWires p)
    (k : Fin 6) (s : State) :
    p (requestClose k s) = p s := by
  unfold requestClose
  (repeat' split) <;> first | rfl | simp only [onSeq_keeps hrcl, startClose_keeps hfpu hbdu, lockOut_keeps hbdu hrcl hwires]

theorem enterClosing_keeps (hrcl : UnseenRcl p) (k : Fin 6) (s : State) :
    p (enterClosing k s) = p s := by
  unfold enterClosing
  simp only [onSeq_keeps hrcl]

theorem leavePrecheck_keeps (hfpu : UnseenFpu p) (hbdu : UnseenBdu p) (hrcl : UnseenRcl p) (hwires : UnseenWires p)
    (k : Fin 6) (s : State) :
    p (leavePrecheck k s) = p s := by
  unfold leavePrecheck
  dsimp only
  (repeat' split) <;> simp only [onSeq_keeps hrcl, emitSeq_keeps hwires, requestTest_keeps hbdu hrcl hwires,
      requestClose_keeps hfpu hbdu hrcl hwires, enterClosing_keeps hrcl]

theorem waitPrecheck_keeps (hbdu : UnseenBdu p) (hrcl : UnseenRcl p) (hwires : UnseenWires p) (k : Fin 6)
    (c : Cause) (s : State) :
    p (waitPrecheck k c s) = p s := by
  unfold waitPrecheck
  dsimp only
  (repeat' split) <;> simp only [onSeq_keeps hrcl, lockOut_keeps hbdu hrcl hwires]

theorem precheckWork_keeps (hfpu : UnseenFpu p) (hbdu : UnseenBdu p) (hrcl : UnseenRcl p) (hwires : UnseenWires p)
    (k : Fin 6) (s : State) :
    p (precheckWork k s) = p s := by
  unfold precheckWork
  split <;> simp only [leavePrecheck_keeps hfpu hbdu hrcl hwires, waitPrecheck_keeps hbdu hrcl hwires]

theorem completeTest_keeps (hbdu : UnseenBdu p) (hrcl : UnseenRcl p) (hwires : UnseenWires p) (k : Fin 6)
    (s : State) :
    p (completeTest k s) = p s := by
  unfold completeTest
  dsimp only
  (repeat' split) <;> simp only [onSeq_keeps hrcl, releaseTest_keeps hbdu, emitSeq_keeps hwires,
      attemptOrLockOut_keeps hbdu hrcl hwires, enterClosing_keeps hrcl]

theorem sumWork_keeps (hbdu : UnseenBdu p) (hrcl : UnseenRcl p) (hwires : UnseenWires p) (k : Fin 6) (s : State) :
    p (sumWork k s) = p s := by
  unfold sumWork
  dsimp only
  (repeat' split) <;> simp only [onSeq_keeps hrcl, completeTest_keeps hbdu hrcl hwires]

theorem settleWork_keeps (hrcl : UnseenRcl p) (k : Fin 6) (s : State) :
    p (settleWork k s) = p s := by
  unfold settleWork
  dsimp only
  (repeat' split) <;> simp only [onSeq_keeps hrcl]

theorem interruptTest_keeps (hbdu : UnseenBdu p) (hrcl : UnseenRcl p) (k : Fin 6) (s : State) :
    p (interruptTest k s) = p s := by
  unfold interruptTest
  simp only [onSeq_keeps hrcl, releaseTest_keeps hbdu]

theorem closeOutcome_keeps (hbdu : UnseenBdu p) (hrcl : UnseenRcl p) (hwires : UnseenWires p) (k : Fin 6)
    (o : CloseOutcome) (s : State) :
    p (closeOutcome k o s) = p s := by
  unfold closeOutcome
  split <;> simp only [onSeq_keeps hrcl, lockOut_keeps hbdu hrcl hwires, attemptOrLockOut_keeps hbdu hrcl hwires]

theorem deadTimeWork_keeps (hrcl : UnseenRcl p) (k : Fin 6) (s : State) :
    p (deadTimeWork k s) = p s := by
  unfold deadTimeWork
  dsimp only
  (repeat' split) <;> simp only [onSeq_keeps hrcl, enterPrecheck_keeps hrcl]

theorem reclaimWork_keeps (hrcl : UnseenRcl p) (hwires : UnseenWires p) (k : Fin 6) (s : State) :
    p (reclaimWork k s) = p s := by
  unfold reclaimWork
  dsimp only
  (repeat' split) <;> simp only [onSeq_keeps hrcl, emitSeq_keeps hwires, enterIdle_keeps hrcl]

theorem noticeWork_keeps (hbdu : UnseenBdu p) (hrcl : UnseenRcl p) (hwires : UnseenWires p) (hfree : UnseenFree p)
    (disturbed : Bool) (k : Fin 6)
    (s s' : State) (h : noticeWork disturbed k s = some s') : p s' = p s := by
  unfold noticeWork at h
  dsimp only at h
  split at h
  · split at h
    · cases h
      split <;> simp only [lockOut_keeps hbdu hrcl hwires, interruptTest_keeps hbdu hrcl, hfree]
    · split at h
      · cases h
        exact lockOut_keeps hbdu hrcl hwires _ _ _
      · split at h
        · cases h
          exact interruptTest_keeps hbdu hrcl _ _
        · split at h
          · cases h
            exact onSeq_keeps hrcl _ _ _
          · cases h
  · cases ho : s.wires.outcome[k] with
    | none => simp [ho] at h
    | some o =>
      simp only [ho, Option.map_some, Option.some.injEq] at h
      rw [← h, closeOutcome_keeps hbdu hrcl hwires]
  · cases h

theorem timedWork_keeps (hfpu : UnseenFpu p) (hbdu : UnseenBdu p) (hrcl : UnseenRcl p) (hwires : UnseenWires p)
    (k : Fin 6) (s : State) :
    p (timedWork k s) = p s := by
  unfold timedWork
  split <;> simp only [requestTest_keeps hbdu hrcl hwires, requestClose_keeps hfpu hbdu hrcl hwires,
      precheckWork_keeps hfpu hbdu hrcl hwires, sumWork_keeps hbdu hrcl hwires, settleWork_keeps hrcl,
      deadTimeWork_keeps hrcl, reclaimWork_keeps hrcl hwires]

theorem stateWork_keeps (hfpu : UnseenFpu p) (hbdu : UnseenBdu p) (hrcl : UnseenRcl p) (hwires : UnseenWires p)
    (hfree : UnseenFree p) (k : Fin 6) (s : State) :
    p (stateWork k s) = p s := by
  unfold stateWork
  split
  · next h => exact noticeWork_keeps hbdu hrcl hwires hfree _ _ _ _ h
  · exact timedWork_keeps hfpu hbdu hrcl hwires _ _

theorem openedByCommand_keeps (hbdu : UnseenBdu p) (hrcl : UnseenRcl p) (k : Fin 6) (s : State) :
    p (openedByCommand k s) = p s := by
  unfold openedByCommand
  dsimp only
  (repeat' split) <;> simp only [onSeq_keeps hrcl, releaseTest_keeps hbdu, enterIdle_keeps hrcl]

theorem applySeqCommand_keeps (hrcl : UnseenRcl p) (hwires : UnseenWires p) (k : Fin 6) (c : SeqCommand) (s : State) :
    p (applySeqCommand k c s) = p s := by
  unfold applySeqCommand
  dsimp only
  (repeat' split) <;> simp only [onSeq_keeps hrcl, emitSeq_keeps hwires, enterPrecheck_keeps hrcl, enterIdle_keeps hrcl]

theorem reach_keeps (hbdu : UnseenBdu p) (hrcl : UnseenRcl p) (hwires : UnseenWires p) (work : State → State)
    (k : Fin 6) (s : State) (hwork : ∀ s, p (work s) = p s) :
    p (reach work k s) = p s := by
  unfold reach
  (repeat' split) <;> first | rfl | simp only [lockOut_keeps hbdu hrcl hwires, attemptOrLockOut_keeps hbdu hrcl hwires,
      openedByCommand_keeps hbdu hrcl, applySeqCommand_keeps hrcl hwires, hwork]

theorem liveStep_keeps (hrcl : UnseenRcl p) (k : Fin 6) (s : State) :
    p (liveStep k s) = p s := by
  unfold liveStep
  simp only [onSeq_keeps hrcl]

theorem rclFrame_keeps (hfpu : UnseenFpu p) (hbdu : UnseenBdu p) (hrcl : UnseenRcl p) (hwires : UnseenWires p)
    (hfree : UnseenFree p) (k : Fin 6) (s : State) :
    p (rclFrame k s) = p s := by
  unfold rclFrame
  rw [reach_keeps hbdu hrcl hwires _ k _ (stateWork_keeps hfpu hbdu hrcl hwires hfree k), liveStep_keeps hrcl]

theorem rclReact_keeps (hbdu : UnseenBdu p) (hrcl : UnseenRcl p) (hwires : UnseenWires p) (hfree : UnseenFree p)
    (k : Fin 6) (s : State) :
    p (rclReact k s) = p s := by
  unfold rclReact
  refine reach_keeps hbdu hrcl hwires _ k s (fun s => ?_)
  cases h : noticeWork false k s with
  | none => rfl
  | some s' => exact noticeWork_keeps hbdu hrcl hwires hfree _ _ _ _ h

theorem rclSwitch_keeps (hbdu : UnseenBdu p) (hrcl : UnseenRcl p) (hwires : UnseenWires p) (k : Fin 6) (s : State) :
    p (rclSwitch k s) = p s := by
  unfold rclSwitch
  dsimp only
  (repeat' split) <;> simp only [onSeq_keeps hrcl, lockOut_keeps hbdu hrcl hwires]

theorem rclFallback_keeps (hrcl : UnseenRcl p) (s : State) :
    p (rclFallback s) = p s := by
  unfold rclFallback
  simp only [hrcl]

theorem rclRestart_keeps (hbdu : UnseenBdu p) (hrcl : UnseenRcl p) (hwires : UnseenWires p) (k : Fin 6) (s : State) :
    p (rclRestart k s) = p s := by
  unfold rclRestart
  split <;> simp only [lockOut_keeps hbdu hrcl hwires]

theorem emitRcu_keeps (hwires : UnseenWires p) (code : EventCode) (cls : Nat) (value : Int) (s : State) :
    p (emitRcu code cls value s) = p s := by
  unfold emitRcu
  simp only [emit_keeps hwires]

theorem onSync_keeps (hrcu : UnseenRcu p) (s : State) (f : Sync → Sync) :
    p (State.onSync s f) = p s := by
  unfold State.onSync
  simp only [hrcu]

theorem fireThyristor_keeps (hrcu : UnseenRcu p) (n : Fin 12) (s : State) :
    p (fireThyristor n s) = p s := by
  unfold fireThyristor
  simp only [hrcu]

theorem fireDue_keeps (hrcu : UnseenRcu p) (fuel : Nat) (s : State) :
    p (fireDue fuel s) = p s := by
  induction fuel generalizing s with
  | zero => rfl
  | succ fuel ih =>
    unfold fireDue
    split
    · rfl
    · split
      · rw [ih, fireThyristor_keeps hrcu]
      · rfl

theorem repoint_keeps (hrcu : UnseenRcu p) (alpha : Nat) (s : State) :
    p (repoint alpha s) = p s := by
  unfold repoint
  split <;> simp only [hrcu, fireDue_keeps hrcu]

theorem beginFiring_keeps (hrcu : UnseenRcu p) (hwires : UnseenWires p) (state : RcuState) (code : Nat)
    (alpha : Nat) (s : State) :
    p (beginFiring state code alpha s) = p s := by
  unfold beginFiring
  simp only [hrcu, emitRcu_keeps hwires, fireDue_keeps hrcu]

theorem wrapCounter_keeps (hrcu : UnseenRcu p) (s : State) :
    p (wrapCounter s) = p s := by
  unfold wrapCounter
  simp only [onSync_keeps hrcu]

theorem rcuTick_keeps (hrcu : UnseenRcu p) (htimer : UnseenTimer p) (s : State) :
    p (rcuTick s) = p s := by
  unfold rcuTick
  dsimp only
  (repeat' split) <;> simp only [htimer, fireDue_keeps hrcu, wrapCounter_keeps hrcu]

theorem rcuRun_keeps (hrcu : UnseenRcu p) (htimer : UnseenTimer p) (ms : List Micro) (s : State) :
    p (rcuRun ms s) = p s := by
  unfold rcuRun
  simp only [rcuTick_keeps hrcu htimer, foldl_keeps p, implies_true]

theorem loseSync_keeps (hrcu : UnseenRcu p) (hwires : UnseenWires p) (cause : Nat) (s : State) :
    p (loseSync cause s) = p s := by
  unfold loseSync
  simp only [emitRcu_keeps hwires, onSync_keeps hrcu]

theorem crossingOne_keeps (hrcu : UnseenRcu p) (hwires : UnseenWires p) (t : Nat) (s : State) :
    p (crossingOne t s) = p s := by
  unfold crossingOne
  dsimp only
  (repeat' split) <;> simp only [onSync_keeps hrcu, loseSync_keeps hrcu hwires]

theorem missCheck_keeps (hrcu : UnseenRcu p) (hwires : UnseenWires p) (t : Nat) (s : State) :
    p (missCheck t s) = p s := by
  unfold missCheck
  dsimp only
  (repeat' split) <;> simp only [onSync_keeps hrcu, loseSync_keeps hrcu hwires]

theorem sequenceCheck_keeps (hrcu : UnseenRcu p) (hwires : UnseenWires p) (lo hi t : Nat) (s : State) :
    p (sequenceCheck lo hi t s) = p s := by
  unfold sequenceCheck
  dsimp only
  (repeat' split) <;> simp only [onSync_keeps hrcu, loseSync_keeps hrcu hwires]

theorem syncFrame_keeps (hrcu : UnseenRcu p) (hwires : UnseenWires p) (s : State) :
    p (syncFrame s) = p s := by
  unfold syncFrame
  dsimp only
  (repeat' split) <;> simp only [crossingOne_keeps hrcu hwires, missCheck_keeps hrcu hwires, sequenceCheck_keeps hrcu hwires]

theorem enterBlocked_keeps (hrcu : UnseenRcu p) (hwires : UnseenWires p) (cause : Nat) (s : State) :
    p (enterBlocked cause s) = p s := by
  unfold enterBlocked
  simp only [hrcu, emitRcu_keeps hwires]

theorem blockingTest_keeps (hrcu : UnseenRcu p) (hwires : UnseenWires p) (s : State) :
    p (blockingTest s) = p s := by
  unfold blockingTest
  (repeat' split) <;> first | rfl | simp only [enterBlocked_keeps hrcu hwires]

theorem leaveBlocked_keeps (hrcu : UnseenRcu p) (hwires : UnseenWires p) (s : State) :
    p (leaveBlocked s) = p s := by
  unfold leaveBlocked
  (repeat' split) <;> first | rfl | simp only [beginFiring_keeps hrcu hwires]

theorem phaseBackEnd_keeps (hrcu : UnseenRcu p) (hwires : UnseenWires p) (s : State) :
    p (phaseBackEnd s) = p s := by
  unfold phaseBackEnd
  split <;> simp only [hrcu, emitRcu_keeps hwires]

theorem phaseBackRequest_keeps (hrcu : UnseenRcu p) (hwires : UnseenWires p) (s : State) :
    p (phaseBackRequest s) = p s := by
  unfold phaseBackRequest
  split <;> simp only [hrcu, emitRcu_keeps hwires, repoint_keeps hrcu]

theorem regulate_keeps (hrcu : UnseenRcu p) (s : State) :
    p (regulate s) = p s := by
  unfold regulate
  split <;> simp only [hrcu]

theorem overloadFrame_keeps (hrcu : UnseenRcu p) (hwires : UnseenWires p) (s : State) :
    p (overloadFrame s) = p s := by
  unfold overloadFrame
  dsimp only
  (repeat' split) <;> simp only [hrcu, raiseRow_keeps hwires, emitRcu_keeps hwires]

theorem overvoltFrame_keeps (hrcu : UnseenRcu p) (hwires : UnseenWires p) (s : State) :
    p (overvoltFrame s) = p s := by
  unfold overvoltFrame
  dsimp only
  (repeat' split) <;> simp only [hrcu, raiseRow_keeps hwires, emitRcu_keeps hwires]

theorem chopperFrame_keeps (hrcu : UnseenRcu p) (hwires : UnseenWires p) (s : State) :
    p (chopperFrame s) = p s := by
  unfold chopperFrame
  dsimp only
  (repeat' split) <;> simp only [hrcu, emitRcu_keeps hwires]

theorem rcuBefore_keeps (hrcu : UnseenRcu p) (hwires : UnseenWires p) (s : State) :
    p (rcuBefore s) = p s := by
  unfold rcuBefore
  dsimp only
  (repeat' split) <;> simp only [syncFrame_keeps hrcu hwires, blockingTest_keeps hrcu hwires, leaveBlocked_keeps hrcu hwires,
      phaseBackEnd_keeps hrcu hwires, overloadFrame_keeps hrcu hwires, overvoltFrame_keeps hrcu hwires]

theorem rcuAfter_keeps (hrcu : UnseenRcu p) (hwires : UnseenWires p) (s : State) :
    p (rcuAfter s) = p s := by
  unfold rcuAfter
  dsimp only
  (repeat' split) <;> simp only [hrcu, regulate_keeps hrcu, chopperFrame_keeps hrcu hwires]

theorem syncSwitch_keeps (hrcu : UnseenRcu p) (hwires : UnseenWires p) (old : RectView) (s : State) :
    p (syncSwitch old s) = p s := by
  unfold syncSwitch
  split <;> simp only [loseSync_keeps hrcu hwires]

theorem rcuSwitch_keeps (hrcu : UnseenRcu p) (hwires : UnseenWires p) (s : State) :
    p (rcuSwitch s) = p s := by
  unfold rcuSwitch
  dsimp only
  (repeat' split) <;> simp only [hrcu, emitRcu_keeps hwires, repoint_keeps hrcu]

theorem rcuFallback_keeps (hrcu : UnseenRcu p) (hwires : UnseenWires p) (s : State) :
    p (rcuFallback s) = p s := by
  unfold rcuFallback
  split <;> simp only [hrcu, emitRcu_keeps hwires, repoint_keeps hrcu]

theorem rcuRestart_keeps (hrcu : UnseenRcu p) (hwires : UnseenWires p) (s : State) :
    p (rcuRestart s) = p s := by
  unfold rcuRestart
  dsimp only
  (repeat' split) <;> simp only [hwires, enterBlocked_keeps hrcu hwires]

theorem onCounter_keeps (hcb : UnseenCb p) (s : State) (n : Fin 16) (f : Counter → Counter) :
    p (State.onCounter s n f) = p s := by
  unfold State.onCounter
  simp only [hcb]

theorem overflowAction_keeps (hcb : UnseenCb p) (hwires : UnseenWires p) (n : Fin 16) (value : Nat) (s : State) :
    p (overflowAction n value s) = p s := by
  unfold overflowAction
  split <;> simp only [hwires, emit_keeps hwires, onCounter_keeps hcb]

theorem counterGain_keeps (hcb : UnseenCb p) (hwires : UnseenWires p) (n : Fin 16) (g : Nat) (s : State) :
    p (counterGain n g s) = p s := by
  unfold counterGain
  dsimp only
  (repeat' split) <;> simp only [onCounter_keeps hcb, overflowAction_keeps hcb hwires]

theorem countOne_keeps (hcb : UnseenCb p) (hwires : UnseenWires p) (n : Fin 16) (s : State) :
    p (countOne n s) = p s := by
  unfold countOne
  split <;> simp only [counterGain_keeps hcb hwires]

theorem accumulate_keeps (hcb : UnseenCb p) (hwires : UnseenWires p) (n : Fin 16) (v : Nat) (s : State) :
    p (accumulate n v s) = p s := by
  unfold accumulate
  dsimp only
  (repeat' split) <;> simp only [onCounter_keeps hcb, counterGain_keeps hcb hwires]

theorem countEventFor_keeps (hcb : UnseenCb p) (hwires : UnseenWires p) (m : EventMsg) (n : Fin 16) (s : State) :
    p (countEventFor m n s) = p s := by
  unfold countEventFor
  (repeat' split) <;> first | rfl | simp only [countOne_keeps hcb hwires, accumulate_keeps hcb hwires]

theorem countEvent_keeps (hcb : UnseenCb p) (hwires : UnseenWires p) (m : EventMsg) (s : State) :
    p (countEvent m s) = p s := by
  unfold countEvent
  simp only [countEventFor_keeps hcb hwires, forAll_keeps p, implies_true]

theorem countCondition_keeps (hcb : UnseenCb p) (hwires : UnseenWires p) (s0 : State) (n : Fin 16) (s : State) :
    p (countCondition s0 n s) = p s := by
  unfold countCondition
  dsimp only
  (repeat' split) <;> simp only [onCounter_keeps hcb, countOne_keeps hcb hwires]

theorem countFrameFor_keeps (hcb : UnseenCb p) (hwires : UnseenWires p) (s0 : State) (n : Fin 16) (s : State) :
    p (countFrameFor s0 n s) = p s := by
  unfold countFrameFor
  split <;> simp only [accumulate_keeps hcb hwires, countCondition_keeps hcb hwires]

theorem countFrame_keeps (hcb : UnseenCb p) (hwires : UnseenWires p) (s0 s : State) :
    p (countFrame s0 s) = p s := by
  unfold countFrame
  simp only [countFrameFor_keeps hcb hwires, forAll_keeps p, implies_true]

theorem dutyStep_keeps (hcb : UnseenCb p) (b : Fin 7) (s : State) :
    p (dutyStep b s) = p s := by
  unfold dutyStep
  split <;> simp only [hcb]

theorem dutyStart_keeps (hcb : UnseenCb p) (b : Fin 7) (s : State) :
    p (dutyStart b s) = p s := by
  unfold dutyStart
  split <;> simp only [dutyStep_keeps hcb]

theorem storeCounters_keeps (hcb : UnseenCb p) (first : Nat) (ws : List Word) (s : State) :
    p (storeCounters first ws s) = p s := by
  unfold storeCounters
  simp only [hcb]

theorem setFrozen_keeps (hcb : UnseenCb p) (b : Bool) (s : State) :
    p (setFrozen b s) = p s := by
  unfold setFrozen
  simp only [hcb]

theorem resetCounters_keeps (hcb : UnseenCb p) (mask : Word) (s : State) :
    p (resetCounters mask s) = p s := by
  unfold resetCounters
  simp only [hcb]

theorem preloadCounter_keeps (hcb : UnseenCb p) (n : Nat) (value : Nat) (s : State) :
    p (preloadCounter n value s) = p s := by
  unfold preloadCounter
  simp only [hcb]

theorem appendEvent_keeps (heru : UnseenEru p) (hcb : UnseenCb p) (hwires : UnseenWires p) (m : EventMsg)
    (s : State) :
    p (appendEvent m s) = p s := by
  unfold appendEvent
  simp only [heru, countEvent_keeps hcb hwires]

theorem countChoice_keeps (hfree : UnseenFree p) (s : State) :
    p (countChoice s) = p s := by
  unfold countChoice
  split <;> simp only [hfree]

theorem appendWaiting_keeps (heru : UnseenEru p) (hcb : UnseenCb p) (hwires : UnseenWires p) (hfree : UnseenFree p)
    (fuel : Nat) (s : State) :
    p (appendWaiting fuel s) = p s := by
  induction fuel generalizing s with
  | zero => rfl
  | succ fuel ih =>
    unfold appendWaiting
    split
    · rfl
    · split
      · rfl
      · rw [ih, appendEvent_keeps heru hcb hwires, hwires, countChoice_keeps hfree]

theorem appendStart_keeps (heru : UnseenEru p) (hcb : UnseenCb p) (hwires : UnseenWires p) (s : State) :
    p (appendStart s) = p s := by
  unfold appendStart
  simp only [heru, appendEvent_keeps heru hcb hwires, foldl_keeps p, implies_true]

theorem appendEvents_keeps (heru : UnseenEru p) (hcb : UnseenCb p) (hwires : UnseenWires p) (hfree : UnseenFree p)
    (s : State) :
    p (appendEvents s) = p s := by
  unfold appendEvents
  simp only [appendWaiting_keeps heru hcb hwires hfree, appendStart_keeps heru hcb hwires]

theorem onBuffer_keeps (heru : UnseenEru p) (s : State) (i : Fin 2) (f : RecBuffer → RecBuffer) :
    p (State.onBuffer s i f) = p s := by
  unfold State.onBuffer
  simp only [heru]

theorem holdRecord_keeps (heru : UnseenEru p) (hwires : UnseenWires p) (i : Fin 2) (s : State) :
    p (holdRecord i s) = p s := by
  unfold holdRecord
  dsimp only
  (repeat' split) <;> simp only [heru, emit_keeps hwires, onBuffer_keeps heru]

theorem holdStep_keeps (heru : UnseenEru p) (hwires : UnseenWires p) (i : Fin 2) (s : State) :
    p (holdStep i s) = p s := by
  unfold holdStep
  split <;> simp only [holdRecord_keeps heru hwires]

theorem recorderWrite_keeps (heru : UnseenEru p) (hwires : UnseenWires p) (s : State) :
    p (recorderWrite s) = p s := by
  unfold recorderWrite
  simp only [heru, holdStep_keeps heru hwires, forAll_keeps p, implies_true]

theorem takeTrigger_keeps (heru : UnseenEru p) (hwires : UnseenWires p) (src : TrigSource) (s : State) :
    p (takeTrigger src s) = p s := by
  unfold takeTrigger
  (repeat' split) <;> first | rfl | simp only [emit_keeps hwires, onBuffer_keeps heru]

theorem triggerStep_keeps (heru : UnseenEru p) (hwires : UnseenWires p) (s : State) :
    p (triggerStep s) = p s := by
  unfold triggerStep
  split <;> simp only [takeTrigger_keeps heru hwires]

theorem releaseRecord_keeps (heru : UnseenEru p) (i : Fin 2) (s : State) :
    p (releaseRecord i s) = p s := by
  unfold releaseRecord
  simp only [heru, onBuffer_keeps heru]

theorem captureAfterRelease_keeps (heru : UnseenEru p) (wasStopped : Bool) (i : Fin 2) (s : State) :
    p (captureAfterRelease wasStopped i s) = p s := by
  unfold captureAfterRelease
  split <;> simp only [onBuffer_keeps heru]

theorem storeRecorder_keeps (heru : UnseenEru p) (ws : List Word) (s : State) :
    p (storeRecorder ws s) = p s := by
  unfold storeRecorder
  simp only [heru]

theorem eruRestart_keeps (heru : UnseenEru p) (s : State) :
    p (eruRestart s) = p s := by
  unfold eruRestart
  simp only [heru]

theorem setIntertrip_keeps (hsbi : UnseenSbi p) (hsu : UnseenSu p) (k : Fin 6) (s : State) :
    p (setIntertrip k s) = p s := by
  unfold setIntertrip
  dsimp only
  (repeat' split) <;> simp only [hsu, setCommandBit_keeps hsbi]

theorem handStart_keeps (hwires : UnseenWires p) (k : Fin 6) (s : State) :
    p (handStart k s) = p s := by
  unfold handStart
  simp only [hwires]

theorem handNotice_keeps (hwires : UnseenWires p) (k : Fin 6) (s : State) :
    p (handNotice k s) = p s := by
  unfold handNotice
  simp only [hwires]

/-- A conditional operation keeps what the operation keeps. -/
theorem doIf_keeps {β : Type} (p : State → β) {f : State → State} (h : ∀ s, p (f s) = p s) (c : Bool) (s : State) :
    p (doIf c f s) = p s := by
  unfold doIf
  split
  · exact h s
  · rfl

theorem applyRows_keeps (hsbi : UnseenSbi p) (hsu : UnseenSu p) (hbdu : UnseenBdu p) (hrcu : UnseenRcu p)
    (hwires : UnseenWires p) (s : State) :
    p (applyRows s) = p s := by
  unfold applyRows
  simp only [hwires, emitAll_keeps hwires, tripRequest_keeps hbdu hwires, phaseBackRequest_keeps hrcu hwires,
      setIntertrip_keeps hsbi hsu, handStart_keeps hwires, handNotice_keeps hwires, doIf_keeps p,
      forAll_keeps p, implies_true]

theorem endHold_keeps (hsbi : UnseenSbi p) (hsu : UnseenSu p) (k : Fin 6) (s : State) :
    p (endHold k s) = p s := by
  unfold endHold
  simp only [hsu, setCommandBit_keeps hsbi]

theorem holdFrame_keeps (hsbi : UnseenSbi p) (hsu : UnseenSu p) (k : Fin 6) (s : State) :
    p (holdFrame k s) = p s := by
  unfold holdFrame
  dsimp only
  (repeat' split) <;> simp only [hsu, endHold_keeps hsbi hsu]

theorem setGroup_keeps (hsu : UnseenSu p) (g : Group) (st : GroupState) (s : State) :
    p (setGroup g st s) = p s := by
  unfold setGroup
  simp only [hsu]

theorem disturb_keeps (hsu : UnseenSu p) (d : Disturbance) (s : State) :
    p (disturb d s) = p s := by
  unfold disturb
  simp only [hsu]

theorem holdsSwitch_keeps (hsu : UnseenSu p) (old : Option InUse) (s : State) :
    p (holdsSwitch old s) = p s := by
  unfold holdsSwitch
  simp only [hsu]

theorem takeSettings_keeps (hsbi : UnseenSbi p) (hmu : UnseenMu p) (hfpu : UnseenFpu p) (hsu : UnseenSu p)
    (new : Option InUse) (s : State) :
    p (takeSettings new s) = p s := by
  unfold takeSettings
  simp only [hmu, hfpu, hsu, changeOwners_keeps hsbi, holdsSwitch_keeps hsu]

theorem enterFallback_keeps (hsbi : UnseenSbi p) (hmu : UnseenMu p) (hfpu : UnseenFpu p) (hsu : UnseenSu p)
    (hrcl : UnseenRcl p) (hrcu : UnseenRcu p) (hwires : UnseenWires p) (s : State) :
    p (enterFallback s) = p s := by
  unfold enterFallback
  simp only [hsu, hwires, rclFallback_keeps hrcl, syncSwitch_keeps hrcu hwires,
      rcuFallback_keeps hrcu hwires, takeSettings_keeps hsbi hmu hfpu hsu]

theorem activateGroup_keeps (hsbi : UnseenSbi p) (hmu : UnseenMu p) (hfpu : UnseenFpu p) (hsu : UnseenSu p)
    (hbdu : UnseenBdu p) (hrcl : UnseenRcl p) (hrcu : UnseenRcu p) (hwires : UnseenWires p) (g : Group)
    (words : Contents) (s : State) :
    p (activateGroup g words s) = p s := by
  unfold activateGroup
  simp only [hsu, rclSwitch_keeps hbdu hrcl hwires, syncSwitch_keeps hrcu hwires,
      rcuSwitch_keeps hrcu hwires, takeSettings_keeps hsbi hmu hfpu hsu, forAll_keeps p, implies_true]

theorem startVerify_keeps (hsu : UnseenSu p) (g : Group) (expected : Word) (s : State) :
    p (startVerify g expected s) = p s := by
  unfold startVerify
  simp only [hsu, setGroup_keeps hsu]

theorem verifyFails_keeps (hscu : UnseenScu p) (hsu : UnseenSu p) (g : Group) (r : Result) (data : List Byte)
    (s : State) :
    p (verifyFails g r data s) = p s := by
  unfold verifyFails
  simp only [setReply_keeps hscu, setGroup_keeps hsu]

theorem verifyPasses_keeps (hsbi : UnseenSbi p) (hscu : UnseenScu p) (hmu : UnseenMu p) (hfpu : UnseenFpu p)
    (hsu : UnseenSu p) (hbdu : UnseenBdu p) (hrcl : UnseenRcl p) (hrcu : UnseenRcu p) (hwires : UnseenWires p)
    (v : Verify) (c : Word) (s : State) :
    p (verifyPasses v c s) = p s := by
  unfold verifyPasses
  simp only [hsu, emit_keeps hwires, setReply_keeps hscu,
      activateGroup_keeps hsbi hmu hfpu hsu hbdu hrcl hrcu hwires]

theorem endVerify_keeps (hsbi : UnseenSbi p) (hscu : UnseenScu p) (hmu : UnseenMu p) (hfpu : UnseenFpu p)
    (hsu : UnseenSu p) (hbdu : UnseenBdu p) (hrcl : UnseenRcl p) (hrcu : UnseenRcu p) (hwires : UnseenWires p)
    (v : Verify) (s : State) :
    p (endVerify v s) = p s := by
  unfold endVerify
  dsimp only
  (repeat' split) <;> simp only [hsu, verifyFails_keeps hscu hsu, verifyPasses_keeps hsbi hscu hmu hfpu hsu hbdu hrcl hrcu hwires]

theorem verifyStep_keeps (hsbi : UnseenSbi p) (hscu : UnseenScu p) (hmu : UnseenMu p) (hfpu : UnseenFpu p)
    (hsu : UnseenSu p) (hbdu : UnseenBdu p) (hrcl : UnseenRcl p) (hrcu : UnseenRcu p) (hwires : UnseenWires p)
    (s : State) :
    p (verifyStep s) = p s := by
  unfold verifyStep
  (repeat' split) <;> first | rfl | simp only [hsu, endVerify_keeps hsbi hscu hmu hfpu hsu hbdu hrcl hrcu hwires]

theorem scrubGroup_keeps (hsu : UnseenSu p) (hwires : UnseenWires p) (g : Group) (s : State) :
    p (scrubGroup g s) = p s := by
  unfold scrubGroup
  dsimp only
  (repeat' split) <;> simp only [hsu, emit_keeps hwires]

theorem afterScrub_keeps (hsbi : UnseenSbi p) (hmu : UnseenMu p) (hfpu : UnseenFpu p) (hsu : UnseenSu p)
    (hrcl : UnseenRcl p) (hrcu : UnseenRcu p) (hwires : UnseenWires p) (s : State) :
    p (afterScrub s) = p s := by
  unfold afterScrub
  split <;> simp only [setGroup_keeps hsu, enterFallback_keeps hsbi hmu hfpu hsu hrcl hrcu hwires]

theorem scrubStep_keeps (hsu : UnseenSu p) (hwires : UnseenWires p) (activated : Bool) (s : State) :
    p (scrubStep activated s) = p s := by
  unfold scrubStep
  (repeat' split) <;> first | rfl | simp only [hsu, scrubGroup_keeps hsu hwires]

theorem settingsFrame_keeps (hsbi : UnseenSbi p) (hscu : UnseenScu p) (hmu : UnseenMu p) (hfpu : UnseenFpu p)
    (hsu : UnseenSu p) (hbdu : UnseenBdu p) (hrcl : UnseenRcl p) (hrcu : UnseenRcu p) (hwires : UnseenWires p)
    (s : State) :
    p (settingsFrame s) = p s := by
  unfold settingsFrame
  simp only [verifyStep_keeps hsbi hscu hmu hfpu hsu hbdu hrcl hrcu hwires,
      afterScrub_keeps hsbi hmu hfpu hsu hrcl hrcu hwires, scrubStep_keeps hsu hwires]

theorem storeGroup_keeps (hsu : UnseenSu p) (g : Group) (t : GroupTable) (first : Nat) (ws : List Word) (s : State) :
    p (storeGroup g t first ws s) = p s := by
  unfold storeGroup
  simp only [hsu]

theorem giveReply_keeps (hscu : UnseenScu p) (heru : UnseenEru p) (q : Request) (a : Answer) (s : State) :
    p (giveReply q a s) = p s := by
  unfold giveReply
  split <;> simp only [heru, setReply_keeps hscu]

theorem giveAnswer_keeps (hscu : UnseenScu p) (heru : UnseenEru p) (s0 : State) (q : Request) (s : State) :
    p (giveAnswer s0 q s) = p s := by
  unfold giveAnswer
  split <;> simp only [hscu, giveReply_keeps hscu heru]

theorem blocksRestart_keeps (hbdu : UnseenBdu p) (hrcl : UnseenRcl p) (hrcu : UnseenRcu p) (heru : UnseenEru p)
    (hwires : UnseenWires p) (s : State) :
    p (blocksRestart s) = p s := by
  unfold blocksRestart
  simp only [bduRestart_keeps hbdu, rclRestart_keeps hbdu hrcl hwires, rcuRestart_keeps hrcu hwires,
      eruRestart_keeps heru, forAll_keeps p, implies_true]

theorem ownerNow_keeps (hfpu : UnseenFpu p) (hsu : UnseenSu p) (hbdu : UnseenBdu p) (hrcl : UnseenRcl p)
    (hrcu : UnseenRcu p) (heru : UnseenEru p) (hwires : UnseenWires p) (s0 : State) (q : Request) (s : State) :
    p (ownerNow s0 q s) = p s := by
  unfold ownerNow
  split <;> simp only [hwires, startClose_keeps hfpu hbdu, commandOpen_keeps hbdu hwires,
      commandOpenAll_keeps hbdu hwires, clearLatches_keeps hbdu hwires, emitRcu_keeps hwires,
      releaseRecord_keeps heru, startVerify_keeps hsu, blocksRestart_keeps hbdu hrcl hrcu heru hwires]

theorem storeLoad_keeps (hsbi : UnseenSbi p) (hmu : UnseenMu p) (hsu : UnseenSu p) (heru : UnseenEru p)
    (hcb : UnseenCb p) (t : TableId) (g : Byte) (first count : Nat) (ws : List Word) (s : State) :
    p (storeLoad t g first count ws s) = p s := by
  unfold storeLoad
  split <;> simp only [storeSlotMap_keeps hsbi hmu, storeMasks_keeps hsbi, storeCounters_keeps hcb,
      storeRecorder_keeps heru, storeGroup_keeps hsu]

theorem ownerEnd_keeps (hsbi : UnseenSbi p) (hscu : UnseenScu p) (hmu : UnseenMu p) (hfpu : UnseenFpu p)
    (hsu : UnseenSu p) (hrcu : UnseenRcu p) (heru : UnseenEru p) (hcb : UnseenCb p) (s0 : State) (q : Request)
    (s : State) :
    p (ownerEnd s0 q s) = p s := by
  unfold ownerEnd
  (repeat' split) <;> first | rfl | simp only [hrcu, setCommandBit_keeps hsbi, loadClock_keeps hscu, setService_keeps hfpu,
      setFrozen_keeps hcb, resetCounters_keeps hcb, preloadCounter_keeps hcb,
      captureAfterRelease_keeps heru, storeLoad_keeps hsbi hmu hsu heru hcb]

theorem clearWires_keeps (hwires : UnseenWires p) (s : State) :
    p (clearWires s) = p s := by
  unfold clearWires
  simp only [hwires]

theorem startOfFrame_keeps (hsbi : UnseenSbi p) (hscu : UnseenScu p) (hmu : UnseenMu p) (hfpu : UnseenFpu p)
    (hsu : UnseenSu p) (hbdu : UnseenBdu p) (hrcl : UnseenRcl p) (hrcu : UnseenRcu p) (hwires : UnseenWires p)
    (inp : FrameInput) (s : State) :
    p (startOfFrame inp s) = p s := by
  unfold startOfFrame
  simp only [hbdu, clearWires_keeps hwires, disturb_keeps hsu, foldl_keeps p,
      settingsFrame_keeps hsbi hscu hmu hfpu hsu hbdu hrcl hrcu hwires, implies_true]

theorem openFrame_keeps (hscu : UnseenScu p) (hbdu : UnseenBdu p) (hstamp : UnseenStamp p) (s : State) :
    p (openFrame s) = p s := by
  unfold openFrame
  simp only [hstamp, clockStep_keeps hscu, bduCounts_keeps hbdu]

theorem busOut_keeps (hsbi : UnseenSbi p) (hscu : UnseenScu p) (heru : UnseenEru p) (hwires : UnseenWires p)
    (inp : FrameInput) (s : State) :
    p (busOut inp s) = p s := by
  unfold busOut
  simp only [syncStep_keeps hsbi hwires, blindCheck_keeps hsbi hwires, transmit_keeps hsbi,
      upStart_keeps hscu heru, presentByte_keeps hscu, abortStep_keeps hscu, doIf_keeps p, implies_true]

theorem busIn_keeps (hsbi : UnseenSbi p) (hwires : UnseenWires p) (inp : FrameInput) (s : State) :
    p (busIn inp s) = p s := by
  unfold busIn
  simp only [checkSlots_keeps hsbi hwires, indicationsStep_keeps hsbi hwires, holdMasterStatus_keeps hsbi]

theorem serveNow_keeps (hscu : UnseenScu p) (hfpu : UnseenFpu p) (hsu : UnseenSu p) (hbdu : UnseenBdu p)
    (hrcl : UnseenRcl p) (hrcu : UnseenRcu p) (heru : UnseenEru p) (hwires : UnseenWires p) (s0 : State)
    (job : Option Request) (s : State) :
    p (serveNow s0 job s) = p s := by
  unfold serveNow
  split <;> simp only [giveAnswer_keeps hscu heru, ownerNow_keeps hfpu hsu hbdu hrcl hrcu heru hwires, doIf_keeps p,
      implies_true]

theorem serveEnd_keeps (hsbi : UnseenSbi p) (hscu : UnseenScu p) (hmu : UnseenMu p) (hfpu : UnseenFpu p)
    (hsu : UnseenSu p) (hrcu : UnseenRcu p) (heru : UnseenEru p) (hcb : UnseenCb p) (s0 : State)
    (job : Option Request) (s : State) :
    p (serveEnd s0 job s) = p s := by
  unfold serveEnd
  split <;> simp only [ownerEnd_keeps hsbi hscu hmu hfpu hsu hrcu heru hcb, doIf_keeps p, implies_true]

theorem settleBreakers_keeps (hbdu : UnseenBdu p) (hcb : UnseenCb p) (hwires : UnseenWires p) (s0 s : State) :
    p (settleBreakers s0 s) = p s := by
  unfold settleBreakers
  simp only [settleBreaker_keeps hbdu hwires, noteFitted_keeps hbdu, dutyStep_keeps hcb, forAll_keeps p,
      implies_true]

theorem receiveService_keeps (hscu : UnseenScu p) (heru : UnseenEru p) (inp : FrameInput) (s : State) :
    p (receiveService inp s) = p s := by
  unfold receiveService
  simp only [receiveDown_keeps hscu, receiveAck_keeps hscu heru]

theorem freezeStep_keeps (hcb : UnseenCb p) (s : State) :
    p (freezeStep s) = p s := by
  unfold freezeStep
  simp only [setFrozen_keeps hcb, doIf_keeps p, implies_true]

theorem closeFrame_keeps (hscu : UnseenScu p) (hfpu : UnseenFpu p) (hbdu : UnseenBdu p) (heru : UnseenEru p)
    (hcb : UnseenCb p) (hwires : UnseenWires p) (hfresh : UnseenFresh p) (inp : FrameInput) (s : State) :
    p (closeFrame inp s) = p s := by
  unfold closeFrame
  simp only [hfresh, closeBlockStep_keeps hfpu, markMoved_keeps hbdu, receiveService_keeps hscu heru,
      freezeStep_keeps hcb, clearWires_keeps hwires, forAll_keeps p, implies_true]

theorem frameWork_keeps (hsbi : UnseenSbi p) (hscu : UnseenScu p) (hmu : UnseenMu p) (hfpu : UnseenFpu p)
    (hsu : UnseenSu p) (hbdu : UnseenBdu p) (hrcl : UnseenRcl p) (hrcu : UnseenRcu p) (heru : UnseenEru p)
    (hcb : UnseenCb p) (hwires : UnseenWires p) (hfree : UnseenFree p) (htimer : UnseenTimer p)
    (hstamp : UnseenStamp p) (hfresh : UnseenFresh p) (inp : FrameInput) (s : State) :
    p (frameWork inp s) = p s := by
  unfold frameWork
  simp only [measure_keeps hmu, scuRestart_keeps hscu heru, fpuFrame_keeps hfpu hwires,
      drivesRun_keeps hbdu hwires, formPositions_keeps hbdu hwires, failureCheck_keeps hbdu hwires,
      rclFrame_keeps hfpu hbdu hrcl hwires hfree, rcuRun_keeps hrcu htimer, rcuBefore_keeps hrcu hwires,
      rcuAfter_keeps hrcu hwires, countFrame_keeps hcb hwires, appendEvents_keeps heru hcb hwires hfree,
      recorderWrite_keeps heru hwires, triggerStep_keeps heru hwires,
      applyRows_keeps hsbi hsu hbdu hrcu hwires, holdFrame_keeps hsbi hsu,
      startOfFrame_keeps hsbi hscu hmu hfpu hsu hbdu hrcl hrcu hwires,
      openFrame_keeps hscu hbdu hstamp, busOut_keeps hsbi hscu heru hwires,
      busIn_keeps hsbi hwires, serveNow_keeps hscu hfpu hsu hbdu hrcl hrcu heru hwires,
      serveEnd_keeps hsbi hscu hmu hfpu hsu hrcu heru hcb, settleBreakers_keeps hbdu hcb hwires,
      closeFrame_keeps hscu hfpu hbdu heru hcb hwires hfresh, doIf_keeps p, forAll_keeps p, implies_true]

theorem flush_keeps (heru : UnseenEru p) (hcb : UnseenCb p) (hwires : UnseenWires p) (hfree : UnseenFree p)
    (s : State) :
    p (flush s) = p s := by
  unfold flush
  simp only [appendEvents_keeps heru hcb hwires hfree, freezeStep_keeps hcb, clearWires_keeps hwires,
      doIf_keeps p, implies_true]

theorem settle_keeps (hsbi : UnseenSbi p) (hsu : UnseenSu p) (hbdu : UnseenBdu p) (hrcl : UnseenRcl p)
    (hrcu : UnseenRcu p) (heru : UnseenEru p) (hcb : UnseenCb p) (hwires : UnseenWires p) (hfree : UnseenFree p)
    (s : State) :
    p (settle s) = p s := by
  unfold settle
  simp only [settleBreaker_keeps hbdu hwires, markMoved_keeps hbdu, rclReact_keeps hbdu hrcl hwires hfree,
      dutyStart_keeps hcb, triggerStep_keeps heru hwires, applyRows_keeps hsbi hsu hbdu hrcu hwires,
      flush_keeps heru hcb hwires hfree, forAll_keeps p, implies_true]

theorem event_keeps (hsbi : UnseenSbi p) (hsu : UnseenSu p) (hbdu : UnseenBdu p) (hrcl : UnseenRcl p)
    (hrcu : UnseenRcu p) (heru : UnseenEru p) (hcb : UnseenCb p) (hwires : UnseenWires p) (hfree : UnseenFree p)
    (due : Bool) (work : State → State) (s : State) (hwork : ∀ s, p (work s) = p s) :
    p (event due work s) = p s := by
  unfold event
  split <;> simp only [settle_keeps hsbi hsu hbdu hrcl hrcu heru hcb hwires hfree, hwork]

theorem quietEvent_keeps (heru : UnseenEru p) (hcb : UnseenCb p) (hwires : UnseenWires p) (hfree : UnseenFree p)
    (due : Bool) (work : State → State) (s : State) (hwork : ∀ s, p (work s) = p s) :
    p (quietEvent due work s) = p s := by
  unfold quietEvent
  split <;> simp only [flush_keeps heru hcb hwires hfree, hwork]

theorem refitBreaker_keeps (hbdu : UnseenBdu p) (hwires : UnseenWires p) (b : Fin 7) (s : State) :
    p (refitBreaker b s) = p s := by
  unfold refitBreaker
  dsimp only
  (repeat' split) <;> simp only [releaseUnlessOpen_keeps hbdu hwires, noteFitted_keeps hbdu, onBreaker_keeps hbdu]

theorem firstFrame_keeps (hsbi : UnseenSbi p) (hfpu : UnseenFpu p) (hbdu : UnseenBdu p) (hrcu : UnseenRcu p)
    (hwires : UnseenWires p) (s : State) :
    p (firstFrame s) = p s := by
  unfold firstFrame
  simp only [blockingTest_keeps hrcu hwires, intertripStep_keeps hfpu hwires, blindCheck_keeps hsbi hwires,
      refitBreaker_keeps hbdu hwires, forAll_keeps p, implies_true]

theorem withFirstFrame_keeps (hsbi : UnseenSbi p) (hfpu : UnseenFpu p) (hbdu : UnseenBdu p) (hrcu : UnseenRcu p)
    (hwires : UnseenWires p) (work : State → State) (s : State) (hwork : ∀ s, p (work s) = p s) :
    p (withFirstFrame work s) = p s := by
  unfold withFirstFrame
  dsimp only
  split <;> simp only [firstFrame_keeps hsbi hfpu hbdu hrcu hwires, hwork]

theorem serve_keeps (hsbi : UnseenSbi p) (hscu : UnseenScu p) (hmu : UnseenMu p) (hfpu : UnseenFpu p)
    (hsu : UnseenSu p) (hbdu : UnseenBdu p) (hrcl : UnseenRcl p) (hrcu : UnseenRcu p) (heru : UnseenEru p)
    (hcb : UnseenCb p) (hwires : UnseenWires p) (hfree : UnseenFree p) (q : Request) (s : State) :
    p (serve q s) = p s := by
  unfold serve
  simp only [scuRestart_keeps hscu heru, serveNow_keeps hscu hfpu hsu hbdu hrcl hrcu heru hwires,
      serveEnd_keeps hsbi hscu hmu hfpu hsu hrcu heru hcb, flush_keeps heru hcb hwires hfree,
      settle_keeps hsbi hsu hbdu hrcl hrcu heru hcb hwires hfree, doIf_keeps p, implies_true, apply_ite p,
      ite_self]

theorem telegram_keeps (hsbi : UnseenSbi p) (hscu : UnseenScu p) (hmu : UnseenMu p) (hfpu : UnseenFpu p)
    (hsu : UnseenSu p) (hbdu : UnseenBdu p) (hrcl : UnseenRcl p) (hrcu : UnseenRcu p) (heru : UnseenEru p)
    (hcb : UnseenCb p) (hwires : UnseenWires p) (hfree : UnseenFree p) (q : Request) (s : State) :
    p (telegram q s) = p s := by
  unfold telegram
  dsimp only
  (repeat' split) <;> simp only [hscu, refuseWith_keeps hscu,
      serve_keeps hsbi hscu hmu hfpu hsu hbdu hrcl hrcu heru hcb hwires hfree]

end Sys2Proof.Machine
end

