-- ==== Sys2Proof/Laws/State.lean ====
section
/-! SUPPORT. What each single-block change of the state leaves alone: one lemma per field per change. -/

namespace Sys2Proof.Machine

variable (s : State)

section

variable (f : Sbi → Sbi)

@[simp] theorem onSbi_straps : (s.onSbi f).straps = s.straps := rfl
@[simp] theorem onSbi_timer : (s.onSbi f).timer = s.timer := rfl
@[simp] theorem onSbi_stamp : (s.onSbi f).stamp = s.stamp := rfl
@[simp] theorem onSbi_prevStamp : (s.onSbi f).prevStamp = s.prevStamp := rfl
@[simp] theorem onSbi_fresh : (s.onSbi f).fresh = s.fresh := rfl
@[simp] theorem onSbi_free : (s.onSbi f).free = s.free := rfl
@[simp] theorem onSbi_sbi : (s.onSbi f).sbi = f s.sbi := rfl
@[simp] theorem onSbi_scu : (s.onSbi f).scu = s.scu := rfl
@[simp] theorem onSbi_mu : (s.onSbi f).mu = s.mu := rfl
@[simp] theorem onSbi_fpu : (s.onSbi f).fpu = s.fpu := rfl
@[simp] theorem onSbi_su : (s.onSbi f).su = s.su := rfl
@[simp] theorem onSbi_bdu : (s.onSbi f).bdu = s.bdu := rfl
@[simp] theorem onSbi_rcl : (s.onSbi f).rcl = s.rcl := rfl
@[simp] theorem onSbi_rcu : (s.onSbi f).rcu = s.rcu := rfl
@[simp] theorem onSbi_eru : (s.onSbi f).eru = s.eru := rfl
@[simp] theorem onSbi_cb : (s.onSbi f).cb = s.cb := rfl
@[simp] theorem onSbi_wires : (s.onSbi f).wires = s.wires := rfl
@[simp] theorem onSbi_pending : (s.onSbi f).pending = s.pending := rfl

end

section

variable (f : Scu → Scu)

@[simp] theorem onScu_straps : (s.onScu f).straps = s.straps := rfl
@[simp] theorem onScu_timer : (s.onScu f).timer = s.timer := rfl
@[simp] theorem onScu_stamp : (s.onScu f).stamp = s.stamp := rfl
@[simp] theorem onScu_prevStamp : (s.onScu f).prevStamp = s.prevStamp := rfl
@[simp] theorem onScu_fresh : (s.onScu f).fresh = s.fresh := rfl
@[simp] theorem onScu_free : (s.onScu f).free = s.free := rfl
@[simp] theorem onScu_sbi : (s.onScu f).sbi = s.sbi := rfl
@[simp] theorem onScu_scu : (s.onScu f).scu = f s.scu := rfl
@[simp] theorem onScu_mu : (s.onScu f).mu = s.mu := rfl
@[simp] theorem onScu_fpu : (s.onScu f).fpu = s.fpu := rfl
@[simp] theorem onScu_su : (s.onScu f).su = s.su := rfl
@[simp] theorem onScu_bdu : (s.onScu f).bdu = s.bdu := rfl
@[simp] theorem onScu_rcl : (s.onScu f).rcl = s.rcl := rfl
@[simp] theorem onScu_rcu : (s.onScu f).rcu = s.rcu := rfl
@[simp] theorem onScu_eru : (s.onScu f).eru = s.eru := rfl
@[simp] theorem onScu_cb : (s.onScu f).cb = s.cb := rfl
@[simp] theorem onScu_wires : (s.onScu f).wires = s.wires := rfl
@[simp] theorem onScu_pending : (s.onScu f).pending = s.pending := rfl

end

section

variable (f : Vector Channel 32 → Vector Channel 32)

@[simp] theorem onMu_straps : (s.onMu f).straps = s.straps := rfl
@[simp] theorem onMu_timer : (s.onMu f).timer = s.timer := rfl
@[simp] theorem onMu_stamp : (s.onMu f).stamp = s.stamp := rfl
@[simp] theorem onMu_prevStamp : (s.onMu f).prevStamp = s.prevStamp := rfl
@[simp] theorem onMu_fresh : (s.onMu f).fresh = s.fresh := rfl
@[simp] theorem onMu_free : (s.onMu f).free = s.free := rfl
@[simp] theorem onMu_sbi : (s.onMu f).sbi = s.sbi := rfl
@[simp] theorem onMu_scu : (s.onMu f).scu = s.scu := rfl
@[simp] theorem onMu_mu : (s.onMu f).mu = f s.mu := rfl
@[simp] theorem onMu_fpu : (s.onMu f).fpu = s.fpu := rfl
@[simp] theorem onMu_su : (s.onMu f).su = s.su := rfl
@[simp] theorem onMu_bdu : (s.onMu f).bdu = s.bdu := rfl
@[simp] theorem onMu_rcl : (s.onMu f).rcl = s.rcl := rfl
@[simp] theorem onMu_rcu : (s.onMu f).rcu = s.rcu := rfl
@[simp] theorem onMu_eru : (s.onMu f).eru = s.eru := rfl
@[simp] theorem onMu_cb : (s.onMu f).cb = s.cb := rfl
@[simp] theorem onMu_wires : (s.onMu f).wires = s.wires := rfl
@[simp] theorem onMu_pending : (s.onMu f).pending = s.pending := rfl

end

section

variable (f : Fpu → Fpu)

@[simp] theorem onFpu_straps : (s.onFpu f).straps = s.straps := rfl
@[simp] theorem onFpu_timer : (s.onFpu f).timer = s.timer := rfl
@[simp] theorem onFpu_stamp : (s.onFpu f).stamp = s.stamp := rfl
@[simp] theorem onFpu_prevStamp : (s.onFpu f).prevStamp = s.prevStamp := rfl
@[simp] theorem onFpu_fresh : (s.onFpu f).fresh = s.fresh := rfl
@[simp] theorem onFpu_free : (s.onFpu f).free = s.free := rfl
@[simp] theorem onFpu_sbi : (s.onFpu f).sbi = s.sbi := rfl
@[simp] theorem onFpu_scu : (s.onFpu f).scu = s.scu := rfl
@[simp] theorem onFpu_mu : (s.onFpu f).mu = s.mu := rfl
@[simp] theorem onFpu_fpu : (s.onFpu f).fpu = f s.fpu := rfl
@[simp] theorem onFpu_su : (s.onFpu f).su = s.su := rfl
@[simp] theorem onFpu_bdu : (s.onFpu f).bdu = s.bdu := rfl
@[simp] theorem onFpu_rcl : (s.onFpu f).rcl = s.rcl := rfl
@[simp] theorem onFpu_rcu : (s.onFpu f).rcu = s.rcu := rfl
@[simp] theorem onFpu_eru : (s.onFpu f).eru = s.eru := rfl
@[simp] theorem onFpu_cb : (s.onFpu f).cb = s.cb := rfl
@[simp] theorem onFpu_wires : (s.onFpu f).wires = s.wires := rfl
@[simp] theorem onFpu_pending : (s.onFpu f).pending = s.pending := rfl

end

section

variable (f : Su → Su)

@[simp] theorem onSu_straps : (s.onSu f).straps = s.straps := rfl
@[simp] theorem onSu_timer : (s.onSu f).timer = s.timer := rfl
@[simp] theorem onSu_stamp : (s.onSu f).stamp = s.stamp := rfl
@[simp] theorem onSu_prevStamp : (s.onSu f).prevStamp = s.prevStamp := rfl
@[simp] theorem onSu_fresh : (s.onSu f).fresh = s.fresh := rfl
@[simp] theorem onSu_free : (s.onSu f).free = s.free := rfl
@[simp] theorem onSu_sbi : (s.onSu f).sbi = s.sbi := rfl
@[simp] theorem onSu_scu : (s.onSu f).scu = s.scu := rfl
@[simp] theorem onSu_mu : (s.onSu f).mu = s.mu := rfl
@[simp] theorem onSu_fpu : (s.onSu f).fpu = s.fpu := rfl
@[simp] theorem onSu_su : (s.onSu f).su = f s.su := rfl
@[simp] theorem onSu_bdu : (s.onSu f).bdu = s.bdu := rfl
@[simp] theorem onSu_rcl : (s.onSu f).rcl = s.rcl := rfl
@[simp] theorem onSu_rcu : (s.onSu f).rcu = s.rcu := rfl
@[simp] theorem onSu_eru : (s.onSu f).eru = s.eru := rfl
@[simp] theorem onSu_cb : (s.onSu f).cb = s.cb := rfl
@[simp] theorem onSu_wires : (s.onSu f).wires = s.wires := rfl
@[simp] theorem onSu_pending : (s.onSu f).pending = s.pending := rfl

end

section

variable (f : Bdu → Bdu)

@[simp] theorem onBdu_straps : (s.onBdu f).straps = s.straps := rfl
@[simp] theorem onBdu_timer : (s.onBdu f).timer = s.timer := rfl
@[simp] theorem onBdu_stamp : (s.onBdu f).stamp = s.stamp := rfl
@[simp] theorem onBdu_prevStamp : (s.onBdu f).prevStamp = s.prevStamp := rfl
@[simp] theorem onBdu_fresh : (s.onBdu f).fresh = s.fresh := rfl
@[simp] theorem onBdu_free : (s.onBdu f).free = s.free := rfl
@[simp] theorem onBdu_sbi : (s.onBdu f).sbi = s.sbi := rfl
@[simp] theorem onBdu_scu : (s.onBdu f).scu = s.scu := rfl
@[simp] theorem onBdu_mu : (s.onBdu f).mu = s.mu := rfl
@[simp] theorem onBdu_fpu : (s.onBdu f).fpu = s.fpu := rfl
@[simp] theorem onBdu_su : (s.onBdu f).su = s.su := rfl
@[simp] theorem onBdu_bdu : (s.onBdu f).bdu = f s.bdu := rfl
@[simp] theorem onBdu_rcl : (s.onBdu f).rcl = s.rcl := rfl
@[simp] theorem onBdu_rcu : (s.onBdu f).rcu = s.rcu := rfl
@[simp] theorem onBdu_eru : (s.onBdu f).eru = s.eru := rfl
@[simp] theorem onBdu_cb : (s.onBdu f).cb = s.cb := rfl
@[simp] theorem onBdu_wires : (s.onBdu f).wires = s.wires := rfl
@[simp] theorem onBdu_pending : (s.onBdu f).pending = s.pending := rfl

end

section

variable (f : Vector Seq 6 → Vector Seq 6)

@[simp] theorem onRcl_straps : (s.onRcl f).straps = s.straps := rfl
@[simp] theorem onRcl_timer : (s.onRcl f).timer = s.timer := rfl
@[simp] theorem onRcl_stamp : (s.onRcl f).stamp = s.stamp := rfl
@[simp] theorem onRcl_prevStamp : (s.onRcl f).prevStamp = s.prevStamp := rfl
@[simp] theorem onRcl_fresh : (s.onRcl f).fresh = s.fresh := rfl
@[simp] theorem onRcl_free : (s.onRcl f).free = s.free := rfl
@[simp] theorem onRcl_sbi : (s.onRcl f).sbi = s.sbi := rfl
@[simp] theorem onRcl_scu : (s.onRcl f).scu = s.scu := rfl
@[simp] theorem onRcl_mu : (s.onRcl f).mu = s.mu := rfl
@[simp] theorem onRcl_fpu : (s.onRcl f).fpu = s.fpu := rfl
@[simp] theorem onRcl_su : (s.onRcl f).su = s.su := rfl
@[simp] theorem onRcl_bdu : (s.onRcl f).bdu = s.bdu := rfl
@[simp] theorem onRcl_rcl : (s.onRcl f).rcl = f s.rcl := rfl
@[simp] theorem onRcl_rcu : (s.onRcl f).rcu = s.rcu := rfl
@[simp] theorem onRcl_eru : (s.onRcl f).eru = s.eru := rfl
@[simp] theorem onRcl_cb : (s.onRcl f).cb = s.cb := rfl
@[simp] theorem onRcl_wires : (s.onRcl f).wires = s.wires := rfl
@[simp] theorem onRcl_pending : (s.onRcl f).pending = s.pending := rfl

end

section

variable (f : Rcu → Rcu)

@[simp] theorem onRcu_straps : (s.onRcu f).straps = s.straps := rfl
@[simp] theorem onRcu_timer : (s.onRcu f).timer = s.timer := rfl
@[simp] theorem onRcu_stamp : (s.onRcu f).stamp = s.stamp := rfl
@[simp] theorem onRcu_prevStamp : (s.onRcu f).prevStamp = s.prevStamp := rfl
@[simp] theorem onRcu_fresh : (s.onRcu f).fresh = s.fresh := rfl
@[simp] theorem onRcu_free : (s.onRcu f).free = s.free := rfl
@[simp] theorem onRcu_sbi : (s.onRcu f).sbi = s.sbi := rfl
@[simp] theorem onRcu_scu : (s.onRcu f).scu = s.scu := rfl
@[simp] theorem onRcu_mu : (s.onRcu f).mu = s.mu := rfl
@[simp] theorem onRcu_fpu : (s.onRcu f).fpu = s.fpu := rfl
@[simp] theorem onRcu_su : (s.onRcu f).su = s.su := rfl
@[simp] theorem onRcu_bdu : (s.onRcu f).bdu = s.bdu := rfl
@[simp] theorem onRcu_rcl : (s.onRcu f).rcl = s.rcl := rfl
@[simp] theorem onRcu_rcu : (s.onRcu f).rcu = f s.rcu := rfl
@[simp] theorem onRcu_eru : (s.onRcu f).eru = s.eru := rfl
@[simp] theorem onRcu_cb : (s.onRcu f).cb = s.cb := rfl
@[simp] theorem onRcu_wires : (s.onRcu f).wires = s.wires := rfl
@[simp] theorem onRcu_pending : (s.onRcu f).pending = s.pending := rfl

end

section

variable (f : Eru → Eru)

@[simp] theorem onEru_straps : (s.onEru f).straps = s.straps := rfl
@[simp] theorem onEru_timer : (s.onEru f).timer = s.timer := rfl
@[simp] theorem onEru_stamp : (s.onEru f).stamp = s.stamp := rfl
@[simp] theorem onEru_prevStamp : (s.onEru f).prevStamp = s.prevStamp := rfl
@[simp] theorem onEru_fresh : (s.onEru f).fresh = s.fresh := rfl
@[simp] theorem onEru_free : (s.onEru f).free = s.free := rfl
@[simp] theorem onEru_sbi : (s.onEru f).sbi = s.sbi := rfl
@[simp] theorem onEru_scu : (s.onEru f).scu = s.scu := rfl
@[simp] theorem onEru_mu : (s.onEru f).mu = s.mu := rfl
@[simp] theorem onEru_fpu : (s.onEru f).fpu = s.fpu := rfl
@[simp] theorem onEru_su : (s.onEru f).su = s.su := rfl
@[simp] theorem onEru_bdu : (s.onEru f).bdu = s.bdu := rfl
@[simp] theorem onEru_rcl : (s.onEru f).rcl = s.rcl := rfl
@[simp] theorem onEru_rcu : (s.onEru f).rcu = s.rcu := rfl
@[simp] theorem onEru_eru : (s.onEru f).eru = f s.eru := rfl
@[simp] theorem onEru_cb : (s.onEru f).cb = s.cb := rfl
@[simp] theorem onEru_wires : (s.onEru f).wires = s.wires := rfl
@[simp] theorem onEru_pending : (s.onEru f).pending = s.pending := rfl

end

section

variable (f : Cb → Cb)

@[simp] theorem onCb_straps : (s.onCb f).straps = s.straps := rfl
@[simp] theorem onCb_timer : (s.onCb f).timer = s.timer := rfl
@[simp] theorem onCb_stamp : (s.onCb f).stamp = s.stamp := rfl
@[simp] theorem onCb_prevStamp : (s.onCb f).prevStamp = s.prevStamp := rfl
@[simp] theorem onCb_fresh : (s.onCb f).fresh = s.fresh := rfl
@[simp] theorem onCb_free : (s.onCb f).free = s.free := rfl
@[simp] theorem onCb_sbi : (s.onCb f).sbi = s.sbi := rfl
@[simp] theorem onCb_scu : (s.onCb f).scu = s.scu := rfl
@[simp] theorem onCb_mu : (s.onCb f).mu = s.mu := rfl
@[simp] theorem onCb_fpu : (s.onCb f).fpu = s.fpu := rfl
@[simp] theorem onCb_su : (s.onCb f).su = s.su := rfl
@[simp] theorem onCb_bdu : (s.onCb f).bdu = s.bdu := rfl
@[simp] theorem onCb_rcl : (s.onCb f).rcl = s.rcl := rfl
@[simp] theorem onCb_rcu : (s.onCb f).rcu = s.rcu := rfl
@[simp] theorem onCb_eru : (s.onCb f).eru = s.eru := rfl
@[simp] theorem onCb_cb : (s.onCb f).cb = f s.cb := rfl
@[simp] theorem onCb_wires : (s.onCb f).wires = s.wires := rfl
@[simp] theorem onCb_pending : (s.onCb f).pending = s.pending := rfl

end

section

variable (f : Wires → Wires)

@[simp] theorem onWires_straps : (s.onWires f).straps = s.straps := rfl
@[simp] theorem onWires_timer : (s.onWires f).timer = s.timer := rfl
@[simp] theorem onWires_stamp : (s.onWires f).stamp = s.stamp := rfl
@[simp] theorem onWires_prevStamp : (s.onWires f).prevStamp = s.prevStamp := rfl
@[simp] theorem onWires_fresh : (s.onWires f).fresh = s.fresh := rfl
@[simp] theorem onWires_free : (s.onWires f).free = s.free := rfl
@[simp] theorem onWires_sbi : (s.onWires f).sbi = s.sbi := rfl
@[simp] theorem onWires_scu : (s.onWires f).scu = s.scu := rfl
@[simp] theorem onWires_mu : (s.onWires f).mu = s.mu := rfl
@[simp] theorem onWires_fpu : (s.onWires f).fpu = s.fpu := rfl
@[simp] theorem onWires_su : (s.onWires f).su = s.su := rfl
@[simp] theorem onWires_bdu : (s.onWires f).bdu = s.bdu := rfl
@[simp] theorem onWires_rcl : (s.onWires f).rcl = s.rcl := rfl
@[simp] theorem onWires_rcu : (s.onWires f).rcu = s.rcu := rfl
@[simp] theorem onWires_eru : (s.onWires f).eru = s.eru := rfl
@[simp] theorem onWires_cb : (s.onWires f).cb = s.cb := rfl
@[simp] theorem onWires_wires : (s.onWires f).wires = f s.wires := rfl
@[simp] theorem onWires_pending : (s.onWires f).pending = s.pending := rfl

end

end Sys2Proof.Machine
end

