-- ==== Sys2Proof/Laws/Events.lean ====
section
/-! SUPPORT. What the end of a single event does with the records handed: each of them reaches the queue, every block's
in its own order, with the Counter Bank's own COUNTER_OVERFLOW records among them. -/

namespace Sys2Proof.Machine

/-! ## Counting an event -/

/-- The counters counted further, and some COUNTER_OVERFLOW records handed (R198, R202). -/
def State.counted (s : State) (cs : Vector Counter 16) (ovs : List EventMsg) (fz : Bool) : State :=
  (s.onCb fun c => { c with counters := cs }).onWires fun w =>
    { w with events := w.events ++ ovs.map fun m => (Block.cb, m), freezeNext := fz }

/-- 1 where a counter can overflow within a number of single counts. -/
def armed (f : Nat) (c : Counter) : Nat := if counterRange ≤ c.value + f then 1 else 0

/-- How many of these counters can overflow within a number of single counts. -/
def armedOf (f : Nat) (cs : Vector Counter 16) (l : List (Fin 16)) : Nat := (l.map fun n => armed f cs[n]).sum

theorem armed_le (f : Nat) (c : Counter) : armed f c ≤ 1 := by unfold armed; split <;> omega

theorem armedOf_le (f : Nat) (cs : Vector Counter 16) (l : List (Fin 16)) : armedOf f cs l ≤ l.length := by
  unfold armedOf
  induction l with
  | nil => simp
  | cons n l ih =>
    simp only [List.map_cons, List.sum_cons, List.length_cons]
    have := armed_le f cs[n]
    omega

theorem armedOf_congr (f : Nat) {cs ds : Vector Counter 16} {l : List (Fin 16)} (h : ∀ n ∈ l, ds[n] = cs[n]) :
    armedOf f ds l = armedOf f cs l := by
  unfold armedOf
  congr 1
  exact List.map_congr_left fun n hn => by rw [h n hn]

/-- What one counter makes of an event of one count at most. -/
structure CountedOne (f : Nat) (n : Fin 16) (s t : State) (c : Counter) (ovs : List EventMsg) (fz : Bool) : Prop where
  eq : t = s.counted (s.cb.counters.set n c) ovs fz
  codes : ∀ m ∈ ovs, EventMsg.code m = .counterOverflow
  bound : ovs.length + armed f c ≤ armed (f + 1) s.cb.counters[n]
  range : c.value < counterRange

theorem countOne_same (f : Nat) (n : Fin 16) (s : State) (h : s.cb.counters[n].value < counterRange) :
    CountedOne f n s s s.cb.counters[n] [] s.wires.freezeNext where
  eq := by apply State.ext <;> simp [State.counted]
  codes := by simp
  bound := by simp only [armed, List.length_nil]; split <;> split <;> omega
  range := h

theorem overflowAction_counted (n : Fin 16) (v : Nat) (s : State) :
    ∃ c ovs fz, overflowAction n v s = s.counted (s.cb.counters.set n c) ovs fz ∧
      (∀ m ∈ ovs, EventMsg.code m = .counterOverflow) ∧ ovs.length ≤ 1 ∧ c.value = s.cb.counters[n].value := by
  unfold overflowAction
  split
  · exact ⟨s.cb.counters[n], [overflowEvent n v], true, by apply State.ext <;> simp [State.counted, emit],
      by simp [overflowEvent], by simp, rfl⟩
  · exact ⟨s.cb.counters[n], [overflowEvent n v], s.wires.freezeNext, by apply State.ext <;> simp [State.counted, emit],
      by simp [overflowEvent], by simp, rfl⟩
  · exact ⟨{ s.cb.counters[n] with block := true, blockFeeder := counterField s n 8 }, [overflowEvent n v],
      s.wires.freezeNext, by apply State.ext <;> simp [State.counted, emit, State.onCounter, updAt],
      by simp [overflowEvent], by simp, rfl⟩
  · exact ⟨s.cb.counters[n], [], s.wires.freezeNext, by apply State.ext <;> simp [State.counted], by simp, by simp, rfl⟩

theorem countOne_counted (f : Nat) (hf : f < 1024) (n : Fin 16) (s : State)
    (h : s.cb.counters[n].value < counterRange) :
    ∃ c ovs fz, CountedOne f n s (countOne n s) c ovs fz := by
  unfold countOne
  split
  · unfold counterGain
    dsimp only
    split
    next hlt =>
      refine ⟨{ s.cb.counters[n] with value := s.cb.counters[n].value + 1 }, [], s.wires.freezeNext, ?_, by simp, ?_, hlt⟩
      · apply State.ext <;> simp [State.counted, State.onCounter, updAt]
      · simp only [armed, List.length_nil]; split <;> split <;> omega
    next hge =>
      have hv : (s.cb.counters[n].value + 1) % counterRange = 0 := by
        have : s.cb.counters[n].value + 1 = counterRange := by omega
        rw [this, Nat.mod_self]
      generalize hX : s.onCounter n (fun c =>
        { c with value := (s.cb.counters[n].value + 1) % counterRange, overflow := true }) = X
      obtain ⟨c, ovs, fz, he, hc, hl, hval⟩ := overflowAction_counted n ((s.cb.counters[n].value + 1) % counterRange) X
      have hval' : c.value = 0 := by
        rw [hval, ← hX]
        simp [State.onCounter, updAt]
        exact hv
      refine ⟨c, ovs, fz, ?_, hc, ?_, ?_⟩
      · rw [he, ← hX]
        apply State.ext <;> simp [State.counted, State.onCounter, updAt]
      · have h1 : armed (f + 1) s.cb.counters[n] = 1 := by unfold armed; rw [if_pos (by omega)]
        have h2 : armed f c = 0 := by
          unfold armed; rw [hval', if_neg]; unfold counterRange; omega
        omega
      · rw [hval']; unfold counterRange; omega
  · exact ⟨_, _, _, countOne_same f n s h⟩

theorem countEventFor_counted (f : Nat) (hf : f < 1024) (m : EventMsg) (hm : m.code ≠ .opened) (n : Fin 16) (s : State)
    (h : s.cb.counters[n].value < counterRange) :
    ∃ c ovs fz, CountedOne f n s (countEventFor m n s) c ovs fz := by
  unfold countEventFor
  have hd : dutyOf s m = none := by simp [dutyOf, hm]
  rw [hd]
  split
  · exact countOne_counted f hf n s h
  · split <;> exact ⟨_, _, _, countOne_same f n s h⟩

/-- Counting an event that is not an opening: COUNTER_OVERFLOW records at most, and each for a counter that can then
overflow no more (R198, R202). -/
theorem countEvent_counted (f : Nat) (hf : f < 1024) (m : EventMsg) (hm : m.code ≠ .opened) (s : State)
    (h : ∀ n : Fin 16, s.cb.counters[n].value < counterRange) :
    ∃ cs ovs fz, countEvent m s = s.counted cs ovs fz ∧ (∀ m ∈ ovs, EventMsg.code m = .counterOverflow) ∧
      ovs.length + armedOf f cs (List.finRange 16) ≤ armedOf (f + 1) s.cb.counters (List.finRange 16) ∧
      ∀ n : Fin 16, cs[n].value < counterRange := by
  have key : ∀ (l : List (Fin 16)) (s : State), l.Nodup → (∀ n : Fin 16, s.cb.counters[n].value < counterRange) →
      ∃ cs ovs fz, l.foldl (fun s n => countEventFor m n s) s = s.counted cs ovs fz ∧
        (∀ m ∈ ovs, EventMsg.code m = .counterOverflow) ∧ (∀ n, n ∉ l → cs[n] = s.cb.counters[n]) ∧
        ovs.length + armedOf f cs l ≤ armedOf (f + 1) s.cb.counters l ∧ ∀ n : Fin 16, cs[n].value < counterRange := by
    intro l
    induction l with
    | nil =>
      intro s _ h
      refine ⟨s.cb.counters, [], s.wires.freezeNext, ?_, by simp, fun _ _ => rfl, by simp [armedOf], h⟩
      apply State.ext <;> simp [State.counted]
    | cons n l ih =>
      intro s hnd h
      obtain ⟨hn, hnd⟩ := List.nodup_cons.mp hnd
      obtain ⟨c, ovs, fz, heq, hcodes, hb, hr⟩ := countEventFor_counted f hf m hm n s (h n)
      have hcs : (countEventFor m n s).cb.counters = s.cb.counters.set n c := by rw [heq]; simp [State.counted]
      have hne : ∀ j : Fin 16, j ≠ n → (s.cb.counters.set n c)[j] = s.cb.counters[j] := fun j hj => by
        simp [Fin.val_ne_of_ne hj.symm]
      have hat : (s.cb.counters.set n c)[n] = c := by simp
      have hrange : ∀ j : Fin 16, (countEventFor m n s).cb.counters[j].value < counterRange := fun j => by
        rw [hcs]
        by_cases hj : j = n
        · rw [hj, hat]; exact hr
        · rw [hne j hj]; exact h j
      obtain ⟨cs, ovs', fz', heq', hcodes', hout, hb', hr'⟩ := ih _ hnd hrange
      refine ⟨cs, ovs ++ ovs', fz', ?_, ?_, ?_, ?_, hr'⟩
      · rw [List.foldl_cons, heq', heq]
        apply State.ext <;> simp [State.counted]
      · intro x hx
        rcases List.mem_append.mp hx with hx | hx
        · exact hcodes x hx
        · exact hcodes' x hx
      · intro j hj
        rw [List.mem_cons, not_or] at hj
        rw [hout j hj.2, hcs, hne j hj.1]
      · have h1 : cs[n] = c := by rw [hout n hn, hcs, hat]
        have h2 : armedOf (f + 1) (countEventFor m n s).cb.counters l = armedOf (f + 1) s.cb.counters l := by
          apply armedOf_congr
          intro j hj
          rw [hcs, hne j fun he => hn (he ▸ hj)]
        rw [h2] at hb'
        simp only [armedOf, List.map_cons, List.sum_cons, List.length_append, h1] at hb' ⊢
        omega
  obtain ⟨cs, ovs, fz, h1, h2, _, h4, h5⟩ := key _ s (List.nodup_finRange 16) h
  exact ⟨cs, ovs, fz, h1, h2, h4, h5⟩

/-! ## Appending -/

/-- Records added at the end of the queue (R184). -/
def Eru.added (now : Clock) (ms : List EventMsg) (e : Eru) : Eru :=
  { e with queue := e.queue ++ stamped e.next now ms, next := numberAfter e.next ms.length }

/-- A record with room in the queue stands at its end (R184). -/
theorem append_room {e : Eru} (h : e.queue.length < 128) (now : Clock) (m : EventMsg) :
    e.append now m = e.added now [m] := by
  simp [Eru.append, queueSize, h, Eru.enqueue, Eru.added, stamped, numberAfter]

theorem added_nil (now : Clock) (e : Eru) : e.added now [] = e := by
  simp [Eru.added, stamped, numberAfter]

theorem added_cons (now : Clock) (m : EventMsg) (ms : List EventMsg) (e : Eru) :
    (e.added now [m]).added now ms = e.added now (m :: ms) := by
  simp [Eru.added, stamped, numberAfter]

/-- The block picked has a record waiting. -/
theorem pickBlock_mem {s : State} {b : Block} (h : pickBlock s = some b) : b ∈ s.wires.events.map Prod.fst := by
  have hw : b ∈ waitingBlocks s.wires.events := by
    unfold pickBlock at h
    split at h
    · cases h
    · next b' hb => cases h; rw [hb]; exact List.mem_singleton_self _
    · next b' bs _ hb =>
      cases h
      rw [hb]
      have hlt : Config.eventPick s.free (bs.length + 1) % (bs.length + 1) < (b' :: bs).length := by
        simpa using Nat.mod_lt _ (Nat.succ_pos _)
      rw [List.getD_eq_getElem _ _ hlt]
      exact List.getElem_mem hlt
  exact List.mem_dedup.mp hw

theorem pickBlock_none {s : State} (h : pickBlock s = none) : s.wires.events = [] := by
  unfold pickBlock at h
  split at h
  · next hb =>
    cases he : s.wires.events with
    | nil => rfl
    | cons e es =>
      have : e.1 ∈ waitingBlocks s.wires.events := List.mem_dedup.mpr (by simp [he])
      rw [hb] at this
      cases this
  · cases h
  · cases h

/-- Taking the first record of a block that has one. -/
theorem takeFirst_spec (b : Block) (es : List (Block × EventMsg)) (h : b ∈ es.map Prod.fst) :
    ∃ pre m post, es = pre ++ (b, m) :: post ∧ (∀ e ∈ pre, e.1 ≠ b) ∧ takeFirst b es = some (m, pre ++ post) := by
  induction es with
  | nil => cases h
  | cons e es ih =>
    obtain ⟨c, m⟩ := e
    by_cases hc : c = b
    · subst hc
      exact ⟨[], m, es, rfl, by simp, by simp [takeFirst]⟩
    · have hb : b ∈ es.map Prod.fst := by
        rcases List.mem_cons.mp h with rfl | h
        · exact absurd rfl hc
        · exact h
      obtain ⟨pre, m', post, rfl, hpre, ht⟩ := ih hb
      refine ⟨(c, m) :: pre, m', post, rfl, ?_, by simp [takeFirst, hc, ht]⟩
      intro e he
      rcases List.mem_cons.mp he with rfl | he
      · exact hc
      · exact hpre e he

/-- The record is not the Counter Bank's own. -/
def plainEvent (m : EventMsg) : Bool := m.code != .counterOverflow

/-- A list of records is another in an order that keeps every block's own (R184). -/
structure Interleaved (es' es : List (Block × EventMsg)) : Prop where
  perm : es'.Perm es
  order : ∀ b : Block, es'.filter (fun e => e.1 == b) = es.filter (fun e => e.1 == b)

/-- The result of appending: records, counters, and what stands on the wires to the end of the frame. -/
def State.appended (s : State) (all : List EventMsg) (cs : Vector Counter 16) (es : List (Block × EventMsg)) (fz : Bool)
    (fr : Nat) : State :=
  { ((s.onEru (Eru.added s.scu.clock all)).onCb fun c => { c with counters := cs }).onWires fun w =>
    { w with events := es, freezeNext := fz } with free := fr }

/-- Every waiting record reaches the queue where there is room. -/
theorem appendWaiting_all (fuel : Nat) (s : State) (hq : s.eru.queue.length + fuel ≤ 128)
    (hop : ∀ e ∈ s.wires.events, e.2.code ≠ .opened) (hc : ∀ n : Fin 16, s.cb.counters[n].value < counterRange)
    (hfuel : s.wires.events.length + armedOf fuel s.cb.counters (List.finRange 16) ≤ fuel) :
    ∃ all es' cs es fz fr, all.filter plainEvent = es'.map Prod.snd ∧
      Interleaved es' (s.wires.events.filter fun e => plainEvent e.2) ∧
      appendWaiting fuel s = s.appended all cs es fz fr := by
  induction fuel generalizing s with
  | zero =>
    have he : s.wires.events = [] := List.eq_nil_of_length_eq_zero (by omega)
    refine ⟨[], [], s.cb.counters, [], s.wires.freezeNext, s.free, rfl, ⟨by simp [he], by simp [he]⟩, ?_⟩
    apply State.ext <;> simp [appendWaiting, State.appended, added_nil]
    rw [← he]
  | succ fuel ih =>
    rw [appendWaiting]
    cases hp : pickBlock s with
    | none =>
      have he := pickBlock_none hp
      refine ⟨[], [], s.cb.counters, [], s.wires.freezeNext, s.free, rfl, ⟨by simp [he], by simp [he]⟩, ?_⟩
      apply State.ext <;> simp [State.appended, added_nil]
      rw [← he]
    | some b =>
      obtain ⟨pre, m, post, hes, hpre, ht⟩ := takeFirst_spec b _ (pickBlock_mem hp)
      dsimp only
      rw [ht]
      dsimp only
      obtain ⟨fr, hfr⟩ : ∃ fr, countChoice s = { s with free := fr } := by
        unfold countChoice
        split
        · exact ⟨s.free, rfl⟩
        · exact ⟨s.free + 1, rfl⟩
      have hlen : s.eru.queue.length < 128 := by omega
      have hmo : m.code ≠ .opened := hop (b, m) (by rw [hes]; simp)
      unfold appendEvent
      rw [hfr]
      generalize hX : State.onEru _ _ = X
      have hXe : X.eru = s.eru.added s.scu.clock [m] := by rw [← hX]; simp [append_room hlen]
      have hXc : X.cb = s.cb := by rw [← hX]; simp
      have hXs : X.scu = s.scu := by rw [← hX]; simp
      have hXw : X.wires = { s.wires with events := pre ++ post } := by rw [← hX]; simp
      obtain ⟨cs, ovs, fz, heq, hov, hb, hr⟩ := countEvent_counted fuel (by omega) m hmo X (by rw [hXc]; exact hc)
      generalize hY : countEvent m X = Y at heq
      have hYe : Y.eru = X.eru := by rw [heq]; simp [State.counted]
      have hYc : Y.cb.counters = cs := by rw [heq]; simp [State.counted]
      have hYs : Y.scu = s.scu := by rw [heq]; simp [State.counted, hXs]
      have hYw : Y.wires.events = (pre ++ post) ++ ovs.map fun m => (Block.cb, m) := by
        rw [heq]; simp [State.counted, hXw]
      have hYop : ∀ e ∈ Y.wires.events, e.2.code ≠ .opened := by
        intro e h
        rw [hYw, List.mem_append, List.mem_map] at h
        rcases h with h | ⟨x, hx, rfl⟩
        · apply hop e
          rw [hes]
          rcases List.mem_append.mp h with h | h
          · exact List.mem_append.mpr (.inl h)
          · exact List.mem_append.mpr (.inr (List.mem_cons_of_mem _ h))
        · rw [hov x hx]; decide
      have hYq : Y.eru.queue.length + fuel ≤ 128 := by
        rw [hYe, hXe]
        simp only [Eru.added, stamped, List.length_append, List.length_cons, List.length_nil]
        omega
      have hYf : Y.wires.events.length + armedOf fuel Y.cb.counters (List.finRange 16) ≤ fuel := by
        rw [hXc] at hb
        rw [hYw, hYc]
        have : s.wires.events.length = (pre ++ post).length + 1 := by rw [hes]; simp; omega
        rw [List.length_append, List.length_map]
        omega
      obtain ⟨all, es', cs', es, fz', fr', hall, hint, happ⟩ := ih Y hYq hYop (by rw [hYc]; exact hr) hYf
      have hres : appendWaiting fuel Y = s.appended (m :: all) cs' es fz' fr' := by
        rw [happ, heq, ← hX]
        apply State.ext <;> simp [State.appended, State.counted, append_room hlen, added_cons]
      have hfilt : Y.wires.events.filter (fun e => plainEvent e.2) = (pre ++ post).filter fun e => plainEvent e.2 := by
        rw [hYw, List.filter_append]
        have : (ovs.map fun m => (Block.cb, m)).filter (fun e => plainEvent e.2) = [] := by
          rw [List.filter_eq_nil_iff]
          intro e he
          obtain ⟨x, hx, rfl⟩ := List.mem_map.mp he
          simp [plainEvent, hov x hx]
        rw [this, List.append_nil]
      rw [hfilt] at hint
      cases hm : plainEvent m with
      | false =>
        refine ⟨m :: all, es', cs', es, fz', fr', by simp [hm, hall], ?_, hres⟩
        have : s.wires.events.filter (fun e => plainEvent e.2) = (pre ++ post).filter fun e => plainEvent e.2 := by
          rw [hes]; simp [hm]
        rw [this]; exact hint
      | true =>
        refine ⟨m :: all, (b, m) :: es', cs', es, fz', fr', by simp [hm, hall], ⟨?_, fun c => ?_⟩, hres⟩
        · rw [hes]
          simp only [List.filter_append, hm, List.filter_cons_of_pos] at hint ⊢
          exact (hint.perm.cons _).trans List.perm_middle.symm
        · rw [hes]
          have := hint.order c
          simp only [List.filter_append, hm, List.filter_cons_of_pos] at this ⊢
          by_cases hcb : b = c
          · subst hcb
            have hnil : (pre.filter fun e => plainEvent e.2).filter (fun e => e.1 == b) = [] := by
              rw [List.filter_eq_nil_iff]
              intro e he
              simp [hpre e (List.mem_filter.mp he).1]
            simp only [hnil, List.nil_append] at this ⊢
            simp [this]
          · simp [hcb, this]

/-! ## The end of a single event -/

theorem Logged.refl (s : State) : Logged [] s s := by
  refine ⟨[], rfl, ?_⟩
  apply State.ext <;> simp [stamped, numberAfter]

/-- Where no record is handed and the queue does not wait for a START, the wires are cleared and no more. -/
theorem flush_none {s : State} (he : s.wires.events = []) (hst : s.eru.startDue = []) (hf : s.wires.freezeNext = false) :
    flush s = clearWires s := by
  have hr : s.hasRecords = false := by simp [State.hasRecords, he, hst]
  simp [flush, doIf, hr, freezeStep, hf]

/-- An event that hands no record, from a quiet state, ends where its work ends. -/
theorem flush_quiet {s : State} (h : s.Quiet) : flush s = s := by
  rw [flush_none (by rw [h.wires]; rfl) h.start (by rw [h.wires]; rfl)]
  apply State.ext <;> simp [clearWires, h.wires]

/-- What the end of a single event does: the records handed reach the queue, every block's in its own order, and the
wires are cleared. -/
theorem flush_logged {s : State} (hroom : s.Roomy) (hst : s.eru.startDue = []) (hf : s.wires.freezeNext = false)
    (hn : s.wires.events.length ≤ 32)
    (hc : ∀ e ∈ s.wires.events, e.2.code ≠ .opened ∧ e.2.code ≠ .counterOverflow) :
    ∃ es', Interleaved es' s.wires.events ∧ Logged (es'.map Prod.snd) (clearWires s) (flush s) := by
  by_cases he : s.wires.events = []
  · rw [flush_none he hst hf, he]
    exact ⟨[], ⟨.refl _, fun _ => rfl⟩, Logged.refl _⟩
  · have hstart : appendStart s = s := by
      unfold appendStart
      rw [hst]
      apply State.ext <;> simp
      apply Eru.ext <;> simp [hst]
    have hr : s.hasRecords = true := by simp [State.hasRecords, he]
    have hflush : flush s = clearWires (freezeStep (appendWaiting (appendFuel s) s)) := by
      simp [flush, doIf, hr, appendEvents, hstart]
    have hq := hroom.queue
    obtain ⟨all, es', cs, es, fz, fr, hall, hint, happ⟩ := appendWaiting_all (appendFuel s) s
      (by unfold appendFuel; omega) (fun e h => (hc e h).1) hroom.counters
      (by
        have := armedOf_le (appendFuel s) s.cb.counters (List.finRange 16)
        rw [List.length_finRange] at this
        unfold appendFuel at this ⊢
        omega)
    have hall' : s.wires.events.filter (fun e => plainEvent e.2) = s.wires.events := by
      rw [List.filter_eq_self]
      intro e h
      simp [plainEvent, (hc e h).2]
    rw [hall'] at hint
    refine ⟨es', hint, all, hall, ?_⟩
    rw [hflush, happ]
    unfold freezeStep clearWires doIf setFrozen
    split <;> apply State.ext <;> simp [State.appended, Eru.added]

/-- One block's records, in its own order. -/
theorem Interleaved.eq_of_one {es' es : List (Block × EventMsg)} (h : Interleaved es' es) {b : Block}
    (hb : ∀ e ∈ es, e.1 = b) : es' = es := by
  have h1 : es.filter (fun e => e.1 == b) = es := List.filter_eq_self.mpr fun e he => by simp [hb e he]
  have h2 : es'.filter (fun e => e.1 == b) = es' :=
    List.filter_eq_self.mpr fun e he => by simp [hb e (h.perm.mem_iff.mp he)]
  rw [← h2, h.order b, h1]

/-- A block that hands one record, from a quiet state. -/
theorem flush_emit {s : State} (b : Block) (m : EventMsg) (hs : s.Quiet) (hroom : s.Roomy)
    (hm : m.code ≠ .opened ∧ m.code ≠ .counterOverflow) : Logged [m] s (flush (emit b m s)) := by
  have hev : (emit b m s).wires.events = [(b, m)] := by simp [emit, hs.wires, Wires.none]
  obtain ⟨es', hint, hlog⟩ := flush_logged (s := emit b m s) ⟨hroom.queue, hroom.counters⟩ hs.start
    (by simp [emit, hs.wires, Wires.none]) (by simp [hev]) (by rw [hev]; simpa using hm)
  have : es' = [(b, m)] := hev ▸ hint.eq_of_one (b := b) (by rw [hev]; simp)
  have hcl : clearWires (emit b m s) = s := by apply State.ext <;> simp [clearWires, emit, hs.wires]
  rw [this, hcl] at hlog
  exact hlog

end Sys2Proof.Machine
end

