-- ==== Sys2Proof/Laws/Frame.lean ====
section
/-! SUPPORT. A FRAME without a telegram: all but the service link, the records and the counters stands before the
records of the frame reach the queue. -/

namespace Sys2Proof.Machine

/-- The work of a frame without a telegram, up to the records that it hands. -/
def beforeRecords (inp : FrameInput) (s : State) : State :=
  let s0 := startOfFrame inp s
  let s := rcuRun inp.micros (drivesRun inp.micros (busOut inp (openFrame s0)))
  let s := busIn inp s
  let s := measure (rawFor s.sbi inp) s
  let s := rcuBefore (fpuFrame (formPositions s))
  let s := applyRows (forAll 7 failureCheck s)
  let s := forAll 6 holdFrame (settleBreakers s0 s)
  let s := rcuAfter (forAll 6 rclFrame s)
  countFrame s0 (recorderWrite (triggerStep s))

theorem frameWork_telegramless {s : State} (h : s.scu.job = none) (inp : FrameInput) :
    frameWork inp s = closeFrame inp (appendEvents (beforeRecords inp s)) := by
  unfold frameWork beforeRecords
  simp only [h, serveNow, serveEnd]
  rfl

/-- A state with the service link, the records, the counters and the model's own marks put aside. -/
def State.core (s : State) : State :=
  { s with
    scu := State.reset.scu, eru := State.reset.eru, cb := State.reset.cb, wires := Wires.none, free := 0
    fresh := false }

/-- An operation for each index passes by what each of its turns passes by. -/
theorem forAll_comm {σ : Type} {n : Nat} {f : Fin n → σ → σ} {p : σ → σ} (h : ∀ i s, p (f i s) = f i (p s)) (s : σ) :
    p (forAll n f s) = forAll n f (p s) := by
  unfold forAll
  induction List.finRange n generalizing s with
  | nil => rfl
  | cons i l ih => rw [List.foldl_cons, List.foldl_cons, ih, h]

theorem closeFrame_core (inp : FrameInput) (s : State) :
    (closeFrame inp s).core = forAll 6 closeBlockStep (forAll 7 markMoved s.core) := by
  have h : (closeFrame inp s).core =
      (receiveService inp (forAll 6 closeBlockStep (forAll 7 markMoved (freezeStep s)))).core := rfl
  rw [h, receiveService_keeps (p := State.core) (fun _ _ => rfl) (fun _ _ => rfl),
    forAll_comm (f := closeBlockStep) (p := State.core) (fun _ _ => rfl),
    forAll_comm (f := markMoved) (p := State.core) (fun _ _ => rfl),
    freezeStep_keeps (p := State.core) (fun _ _ => rfl)]

/-- What a frame without a telegram leaves, but for the service link, the records and the counters. -/
theorem frameWork_core {s : State} (h : s.scu.job = none) (inp : FrameInput) :
    (frameWork inp s).core = forAll 6 closeBlockStep (forAll 7 markMoved (beforeRecords inp s).core) := by
  rw [frameWork_telegramless h, closeFrame_core,
    appendEvents_keeps (p := State.core) (fun _ _ => rfl) (fun _ _ => rfl) (fun _ _ => rfl) (fun _ _ => rfl)]

end Sys2Proof.Machine
end

