-- ==== Sys2Proof/Laws/Settle.lean ====
section
/-! SUPPORT. What a single event's end does in a state at rest: beyond the records handed, nothing. -/

namespace Sys2Proof.Machine

/-- An operation for each index that does nothing in a state does nothing there. -/
theorem forAll_id {σ : Type} {n : Nat} {f : Fin n → σ → σ} {s : σ} (h : ∀ i, f i s = s) : forAll n f s = s := by
  unfold forAll
  generalize List.finRange n = l
  induction l with
  | nil => rfl
  | cons i l ih => rw [List.foldl_cons, h i, ih]

/-- What can stand on the wires when no notice does: records. -/
def Wires.recordsOnly (es : List (Block × EventMsg)) : Wires := { Wires.none with events := es }

theorem applyRows_none {s : State} {es : List (Block × EventMsg)} (h : s.wires = Wires.recordsOnly es) :
    applyRows s = s := by
  have hr : s.wires.rows = [] := by rw [h]; rfl
  have h1 : emitAll .su [] (s.onWires fun w => { w with rows := [] }) = s := by
    apply State.ext <;> simp [emitAll]
    apply Wires.ext <;> simp [hr]
  unfold applyRows
  simp only [hr, anyRow, List.any_nil, doIf]
  have h0 : raisesInOrder [] = [] := by simp [raisesInOrder]
  simp only [h0, List.map_nil, h1, Bool.false_eq_true, if_false]
  rw [forAll_id (f := fun _ s => s), forAll_id (f := fun _ s => s), forAll_id (f := fun _ s => s),
    forAll_id (f := fun _ s => s)] <;> intros <;> rfl

theorem onBreaker_id {s : State} {b : Fin 7} {f : Breaker → Breaker} (h : f (s.breaker b) = s.breaker b) :
    s.onBreaker b f = s := by
  have : updAt s.bdu.breakers b f = s.bdu.breakers := by
    unfold updAt State.breaker at *
    rw [h]
    exact Vector.set_getElem_self _
  apply State.ext <;> simp [State.onBreaker, this]

theorem settleBreaker_settled {s : State} (h : s.Settled) (b : Fin 7) :
    settleBreaker (s.breaker b).position b s = s := by
  have h1 := h.target b
  have h2 := h.failed b
  unfold settleBreaker
  have : ¬ ((s.breaker b).op ≠ .none ∧ (s.breaker b).op.target = some (s.breaker b).position) := fun ⟨a, c⟩ => h1 a c
  simp only [this, if_false, positionEvents, if_true, ite_self, h2, Bool.false_eq_true]

theorem markMoved_settled {s : State} (h : s.Settled) (b : Fin 7) : markMoved b s = s := by
  apply onBreaker_id
  have h3 := h.moved b
  cases hm : (s.breaker b).moved with
  | true => rw [Bool.true_or, ← hm]
  | false =>
    have : ((s.breaker b).op != .none && (s.breaker b).op.target != some (s.breaker b).position &&
        (s.breaker b).position != .unknown) = false := by
      by_cases ho : (s.breaker b).op = .none
      · simp [ho]
      · by_cases hp : (s.breaker b).position = .unknown
        · simp [hp]
        · rw [h3 ho hp] at hm; cases hm
    rw [this, Bool.or_false, ← hm]

theorem rclReact_none {s : State} {es : List (Block × EventMsg)} (h : s.wires = Wires.recordsOnly es) (k : Fin 6) :
    rclReact k s = s := by
  have hw : s.wires.commandOpening[k] = false ∧ s.wires.fallbackNotice = false ∧ s.wires.seqCommand = none ∧
      s.wires.starts[k] = false ∧ s.wires.rowNotice[k] = false ∧ s.wires.testReleased[k] = false ∧
      s.wires.testHeld[k] = false ∧ s.wires.outcome[k] = none := by
    rw [h]; simp [Wires.recordsOnly, Wires.none]
  obtain ⟨h1, h2, h3, h4, h5, h6, h7, h8⟩ := hw
  have hn : noticeWork false k s = none := by
    unfold noticeWork
    dsimp only
    split <;> simp [h5, h6, h7, h8]
  simp [rclReact, reach, h1, h2, seqCommandFor, h3, h4, hn]

theorem triggerStep_none {s : State} {es : List (Block × EventMsg)} (h : s.wires = Wires.recordsOnly es) :
    triggerStep s = s := by
  unfold triggerStep
  rw [h]
  rfl

/-- In a settled state without a notice on the wires, the records handed are all that is left to do. -/
theorem settle_flush {s : State} {es : List (Block × EventMsg)} (hs : s.Settled) (h : s.wires = Wires.recordsOnly es) :
    settle s = flush s := by
  have hd : ∀ b : Fin 7, dutyStart b s = s := fun b => by
    unfold dutyStart
    rw [h]
    simp [Wires.recordsOnly, Wires.none]
  unfold settle
  dsimp only
  rw [applyRows_none h, forAll_id (f := fun b s => settleBreaker (s.breaker b).position b (dutyStart b s)),
    forAll_id (f := markMoved), forAll_id (f := rclReact), triggerStep_none h]
  · exact rclReact_none h
  · exact markMoved_settled hs
  · intro b
    rw [hd b]
    exact settleBreaker_settled hs b

/-- A state at rest is left as it is. -/
theorem settle_rest {s : State} (h : s.AtRest) : settle s = s := by
  rw [settle_flush h.toSettled (es := []) h.wires, flush_quiet h.toQuiet]

/-- A state at rest with one record handed. -/
theorem settle_emit {s : State} (b : Block) (m : EventMsg) (hs : s.AtRest) (hroom : s.Roomy)
    (hm : m.code ≠ .opened ∧ m.code ≠ .counterOverflow) : Logged [m] s (settle (emit b m s)) := by
  have hw : (emit b m s).wires = Wires.recordsOnly [(b, m)] := by
    simp [emit, hs.wires, Wires.recordsOnly, Wires.none]
  rw [settle_flush (s := emit b m s) ⟨hs.target, hs.failed, hs.moved⟩ hw]
  exact flush_emit b m hs.toQuiet hroom hm

end Sys2Proof.Machine
end

