-- ==== Sys2Proof/Laws/Rows.lean ====
section
/-! SUPPORT. What raised rows make the blocks do: the trip matrix applied, operations settled, sequences told, the
records in the queue. -/

namespace Sys2Proof.Machine

/-! ## Turns of a bank -/

/-- The turns of a bank before and after one index. -/
theorem forAll_split {n : Nat} (j : Fin n) : ∃ l1 l2 : List (Fin n), j ∉ l1 ∧ j ∉ l2 ∧
    ∀ {σ : Type} (f : Fin n → σ → σ) (s : σ), forAll n f s =
      l2.foldl (fun s i => f i s) (f j (l1.foldl (fun s i => f i s) s)) := by
  obtain ⟨l1, l2, h⟩ := List.append_of_mem (List.mem_finRange j)
  have hn := List.nodup_finRange n
  rw [h, List.nodup_append] at hn
  refine ⟨l1, l2, fun hj => hn.2.2 j hj j (List.mem_cons_self ..) rfl, (List.nodup_cons.mp hn.2.1).1, ?_⟩
  intro σ f s
  rw [forAll, h, List.foldl_append, List.foldl_cons]

theorem foldl_inv {σ ι : Type} {f : ι → σ → σ} (P : σ → Prop) {l : List ι} (h : ∀ i ∈ l, ∀ s, P s → P (f i s)) :
    ∀ s, P s → P (l.foldl (fun s i => f i s) s) := by
  induction l with
  | nil => exact fun s hs => hs
  | cons i l ih =>
    intro s hs
    exact ih (fun j hj => h j (List.mem_cons_of_mem _ hj)) _ (h i (List.mem_cons_self ..) s hs)

theorem forAll_inv {σ : Type} {n : Nat} {f : Fin n → σ → σ} (P : σ → Prop) (h : ∀ i s, P s → P (f i s)) (s : σ)
    (hs : P s) : P (forAll n f s) := foldl_inv P (fun i _ => h i) s hs

/-- A reading that only the turn of one index changes is what that turn makes of it. -/
theorem forAll_view {σ β : Type} {n : Nat} {f : Fin n → σ → σ} (j : Fin n) (view : σ → β)
    (hne : ∀ i, i ≠ j → ∀ s, view (f i s) = view s) (s : σ) :
    ∃ s', view s' = view s ∧ view (forAll n f s) = view (f j s') := by
  obtain ⟨l1, l2, h1, h2, h⟩ := forAll_split j
  refine ⟨l1.foldl (fun s i => f i s) s, ?_, ?_⟩
  · exact foldl_inv (fun x => view x = view s) (fun i hi x hx => (hne i (fun e => h1 (e ▸ hi)) x).trans hx) s rfl
  · rw [h f s]
    exact foldl_inv (fun x => view x = view (f j _)) (fun i hi x hx => (hne i (fun e => h2 (e ▸ hi)) x).trans hx) _ rfl

/-! ## Records of a bank -/

theorem breaker_onBreaker (s : State) (b : Fin 7) (f : Breaker → Breaker) :
    (s.onBreaker b f).breaker b = f (s.breaker b) := by
  simp [State.onBreaker, State.breaker, updAt]

theorem breaker_onBreaker_ne (s : State) {b c : Fin 7} (h : b ≠ c) (f : Breaker → Breaker) :
    (s.onBreaker b f).breaker c = s.breaker c := by
  have : b.val ≠ c.val := fun e => h (Fin.ext e)
  simp [State.onBreaker, State.breaker, updAt, this]

theorem drive_onDrive (s : State) (b : Fin 20) (f : Drive → Drive) : (s.onDrive b f).drive b = f (s.drive b) := by
  simp [State.onDrive, State.drive, updAt]

theorem drive_onDrive_ne (s : State) {b c : Fin 20} (h : b ≠ c) (f : Drive → Drive) :
    (s.onDrive b f).drive c = s.drive c := by
  have : b.val ≠ c.val := fun e => h (Fin.ext e)
  simp [State.onDrive, State.drive, updAt, this]

theorem seq_onSeq (s : State) (k : Fin 6) (f : Seq → Seq) : (s.onSeq k f).seq k = f (s.seq k) := by
  simp [State.onSeq, State.seq, updAt]

theorem seq_onSeq_ne (s : State) {j k : Fin 6} (h : j ≠ k) (f : Seq → Seq) : (s.onSeq j f).seq k = s.seq k := by
  have : j.val ≠ k.val := fun e => h (Fin.ext e)
  simp [State.onSeq, State.seq, updAt, this]

@[simp] theorem onDrive_breaker (s : State) (c : Fin 20) (f : Drive → Drive) (b : Fin 7) :
    (s.onDrive c f).breaker b = s.breaker b := rfl

@[simp] theorem onBreaker_drive (s : State) (b : Fin 7) (f : Breaker → Breaker) (c : Fin 20) :
    (s.onBreaker b f).drive c = s.drive c := rfl

theorem trip_ne_close : ∀ b c : Fin 7, tripChannel b ≠ closeChannel c := by decide
theorem trip_ne_test : ∀ (b : Fin 7) (k : Fin 6), tripChannel b ≠ testChannel k := by decide
theorem close_ne_test : ∀ (b : Fin 7) (k : Fin 6), closeChannel b ≠ testChannel k := by decide
theorem trip_inj : ∀ b c : Fin 7, b ≠ c → tripChannel b ≠ tripChannel c := by decide
theorem close_inj : ∀ b c : Fin 7, b ≠ c → closeChannel b ≠ closeChannel c := by decide
theorem test_inj : ∀ j k : Fin 6, j ≠ k → testChannel j ≠ testChannel k := by decide
theorem feederOf_breakerOf : ∀ k : Fin 6, feederOf (breakerOf k) = some k := by decide
theorem feederOf_eq : ∀ (b : Fin 7) (k : Fin 6), feederOf b = some k → b = breakerOf k := by decide
theorem breakerOf_val : ∀ k : Fin 6, (breakerOf k).val = k.val := by decide

/-! ## Records handed -/

/-- Some records more on the wires, none of them an OPENED or a COUNTER_OVERFLOW. -/
def Grown (c : Nat) (s t : State) : Prop :=
  ∃ new, t.wires.events = s.wires.events ++ new ∧ new.length ≤ c ∧
    ∀ e ∈ new, e.2.code ≠ .opened ∧ e.2.code ≠ .counterOverflow

theorem Grown.of_eq {c : Nat} {s t : State} (h : t.wires.events = s.wires.events) : Grown c s t :=
  ⟨[], by simp [h], Nat.zero_le _, by simp⟩

theorem Grown.trans {c d : Nat} {s t u : State} : Grown c s t → Grown d t u → Grown (c + d) s u := by
  rintro ⟨n, h1, h2, h3⟩ ⟨m, g1, g2, g3⟩
  refine ⟨n ++ m, by rw [g1, h1, List.append_assoc], by rw [List.length_append]; omega, fun e he => ?_⟩
  rcases List.mem_append.mp he with he | he
  · exact h3 e he
  · exact g3 e he

theorem grown_emit {c : Nat} {s : State} {b : Block} {m : EventMsg} {t : State}
    (h : t.wires.events = s.wires.events ++ [(b, m)]) (hm : m.code ≠ .opened ∧ m.code ≠ .counterOverflow)
    (hc : 1 ≤ c) : Grown c s t :=
  ⟨[(b, m)], h, hc, by simpa using hm⟩

theorem grown_forAll {n c : Nat} {f : Fin n → State → State} (h : ∀ i s, Grown c s (f i s)) (s : State) :
    Grown (n * c) s (forAll n f s) := by
  unfold forAll
  rw [show n * c = (List.finRange n).length * c by rw [List.length_finRange]]
  generalize List.finRange n = l
  induction l generalizing s with
  | nil => exact .of_eq rfl
  | cons i l ih =>
    rw [List.foldl_cons, List.length_cons, Nat.succ_mul, Nat.add_comm]
    exact (h i s).trans (ih _)

/-! ## Trips -/

/-- What a frame's turns change of one breaker, and the settings they are read with. -/
def State.bview (s : State) (b : Fin 7) : Breaker × Drive × Drive × Su × Straps :=
  (s.breaker b, s.drive (tripChannel b), s.drive (closeChannel b), s.su, s.straps)

theorem bview_eq {s t : State} {b : Fin 7} : s.bview b = t.bview b ↔
    s.breaker b = t.breaker b ∧ s.drive (tripChannel b) = t.drive (tripChannel b) ∧
      s.drive (closeChannel b) = t.drive (closeChannel b) ∧ s.su = t.su ∧ s.straps = t.straps := by
  simp [State.bview]

theorem bview_of_bdu {s t : State} (b : Fin 7) (h : s.bdu = t.bdu) (h2 : s.su = t.su) (h3 : s.straps = t.straps) :
    s.bview b = t.bview b := by
  simp [State.bview, State.breaker, State.drive, h, h2, h3]

theorem onDrive_bview (s : State) (b : Fin 7) (c : Fin 20) (f : Drive → Drive) (h1 : c ≠ tripChannel b)
    (h2 : c ≠ closeChannel b) : (s.onDrive c f).bview b = s.bview b := by
  rw [bview_eq]
  exact ⟨rfl, drive_onDrive_ne s h1 f, drive_onDrive_ne s h2 f, rfl, rfl⟩

theorem onBreaker_bview (s : State) {b c : Fin 7} (h : c ≠ b) (f : Breaker → Breaker) :
    (s.onBreaker c f).bview b = s.bview b := by
  rw [bview_eq]
  exact ⟨breaker_onBreaker_ne s h f, rfl, rfl, rfl, rfl⟩

@[simp] theorem onWires_bview (s : State) (f : Wires → Wires) (b : Fin 7) : (s.onWires f).bview b = s.bview b := rfl
@[simp] theorem onCb_bview (s : State) (f : Cb → Cb) (b : Fin 7) : (s.onCb f).bview b = s.bview b := rfl
@[simp] theorem emit_bview (c : Block) (m : EventMsg) (s : State) (b : Fin 7) : (emit c m s).bview b = s.bview b := rfl

theorem startTrip_bview {b c : Fin 7} (h : c ≠ b) (s : State) : (startTrip c s).bview b = s.bview b := by
  unfold startTrip
  rw [onBreaker_bview _ h, onWires_bview, onDrive_bview _ _ _ _ (trip_inj c b h) (trip_ne_close c b),
    onDrive_bview _ _ _ _ (trip_ne_close b c).symm (close_inj c b h)]

theorem endClose_bview {b c : Fin 7} (h : c ≠ b) (o : CloseOutcome) (s : State) :
    (endClose c o s).bview b = s.bview b := by
  unfold endClose
  dsimp only
  split <;> simp only [onWires_bview, onBreaker_bview _ h]

/-- A reading that the parts of a trip request do not change. -/
theorem tripRequest_reads {β : Type} {p : State → β} (b : Fin 7) (hb : ∀ s f, p (s.onBreaker b f) = p s)
    (ht : ∀ s, p (startTrip b s) = p s) (he : ∀ s, p (endClose b .cut s) = p s)
    (hem : ∀ c m s, p (emit c m s) = p s) (s : State) : p (tripRequest b s) = p s := by
  unfold tripRequest cutClose
  dsimp only
  (repeat' split) <;> simp only [hb, ht, he, hem]

theorem tripRequest_bview {b c : Fin 7} (h : c ≠ b) (s : State) : (tripRequest c s).bview b = s.bview b :=
  tripRequest_reads (p := fun x => x.bview b) c (fun s f => onBreaker_bview s h f) (startTrip_bview h)
    (endClose_bview h _) (fun c m s => emit_bview c m s b) s

theorem startTrip_trip (b : Fin 7) (s : State) : (startTrip b s).drive (tripChannel b) =
    Drive.energise (s.driveRec (tripChannel b)) (s.drive (tripChannel b)) := by
  unfold startTrip
  dsimp only
  rw [onBreaker_drive]
  show State.drive (State.onDrive _ _ _) _ = _
  rw [drive_onDrive, drive_onDrive_ne _ (trip_ne_close b b).symm]
  rfl

theorem startTrip_close (b : Fin 7) (s : State) : (startTrip b s).drive (closeChannel b) =
    (s.drive (closeChannel b)).release := by
  unfold startTrip
  dsimp only
  rw [onBreaker_drive]
  show State.drive (State.onDrive _ _ _) _ = _
  rw [drive_onDrive_ne _ (trip_ne_close b b), drive_onDrive]

theorem startTrip_events (b : Fin 7) (s : State) : (startTrip b s).wires.events = s.wires.events := rfl

theorem startTrip_outcome (b : Fin 7) (s : State) : (startTrip b s).wires.outcome = s.wires.outcome := rfl

theorem endClose_drive (b : Fin 7) (o : CloseOutcome) (s : State) (c : Fin 20) :
    (endClose b o s).drive c = s.drive c := by
  unfold endClose
  dsimp only
  split <;> rfl

/-- A breaker that a trip request has left settled: tripping from the beginning, or as it was. -/
theorem tripRequest_cases (b : Fin 7) (s : State) :
    (tripRequest b s).breaker b = { s.breaker b with tripTaken := true } ∧
        (tripRequest b s).drive (tripChannel b) = s.drive (tripChannel b) ∧
        (tripRequest b s).drive (closeChannel b) = s.drive (closeChannel b) ∧
        ((s.isFitted b = true → (s.breaker b).op = .none → (s.breaker b).position = .opn)) ∨
      (tripRequest b s).TripBegun b ∧ ((tripRequest b s).breaker b).tripTaken = true ∧
        ((tripRequest b s).breaker b).moved = false ∧
        ((tripRequest b s).breaker b).position = (s.breaker b).position ∧
        ((tripRequest b s).breaker b).wasFitted = (s.breaker b).wasFitted ∧
        (tripRequest b s).drive (closeChannel b) = (s.drive (closeChannel b)).release := by
  have hb : ∀ x : State, (startTrip b x).breaker b =
      { x.breaker b with op := .tripping, count := 0, tbf := tBf x.su.inUse, moved := false } := fun x =>
    breaker_onBreaker _ _ _
  have hbegun : ∀ x : State, (startTrip b x).TripBegun b := fun x =>
    ⟨by rw [hb], by rw [hb], by rw [startTrip_trip]; rfl, by rw [startTrip_trip]; rfl⟩
  have hset : ∀ x : State, (x.onBreaker b fun r => { r with tripTaken := true }).breaker b =
      { x.breaker b with tripTaken := true } := fun x => breaker_onBreaker _ _ _
  unfold tripRequest
  dsimp only
  split
  · split
    · rename_i h
      rw [hset] at h
      exact .inl ⟨hset s, rfl, rfl, fun _ hn => by rw [h] at hn; cases hn⟩
    · right
      refine ⟨hbegun _, ?_⟩
      have he : ∀ x : State, (endClose b .cut x).breaker b = { x.breaker b with op := .none, count := 0 } := by
        intro x
        unfold endClose
        dsimp only
        split <;> exact breaker_onBreaker _ _ _
      unfold cutClose
      rw [hb, he, startTrip_close, endClose_drive]
      simp [emit, State.breaker, State.drive, State.onBreaker, State.onWires, updAt]
    · rename_i h
      split
      · rename_i hp
        rw [hset] at hp
        exact .inl ⟨hset s, rfl, rfl, fun _ _ => hp⟩
      · right
        refine ⟨hbegun _, ?_⟩
        rw [hb, hset, startTrip_close]
        simp
  · rename_i h
    exact .inl ⟨hset s, rfl, rfl, fun hf => absurd hf h⟩

/-! ## The wires -/

/-- The wires but for records, close outcomes and trip starts. -/
def Wires.still (w : Wires) : Wires :=
  { w with events := [], outcome := Vector.replicate 6 Option.none, tripStarted := Vector.replicate 7 false }

@[simp] theorem emit_still (b : Block) (m : EventMsg) (s : State) : (emit b m s).wires.still = s.wires.still := rfl

theorem startTrip_still (b : Fin 7) (s : State) : (startTrip b s).wires.still = s.wires.still := rfl

theorem endClose_still (b : Fin 7) (o : CloseOutcome) (s : State) : (endClose b o s).wires.still = s.wires.still := by
  unfold endClose
  dsimp only
  split <;> rfl

theorem tripRequest_still (b : Fin 7) (s : State) : (tripRequest b s).wires.still = s.wires.still :=
  tripRequest_reads (p := fun x => x.wires.still) b (fun _ _ => rfl) (startTrip_still b) (endClose_still b _)
    (fun _ _ _ => rfl) s

theorem endClose_events (b : Fin 7) (o : CloseOutcome) (s : State) :
    (endClose b o s).wires.events = s.wires.events := by
  unfold endClose
  dsimp only
  split <;> rfl

theorem tripRequest_grown (b : Fin 7) (s : State) : Grown 1 s (tripRequest b s) := by
  unfold tripRequest
  dsimp only
  split
  · split
    · exact .of_eq rfl
    · refine grown_emit (b := .bdu) (m := ⟨.breaker, b.val, .closeCut, 1, none⟩) ?_ (by simp) (Nat.le_refl _)
      unfold cutClose
      rw [startTrip_events, endClose_events]
      rfl
    · split
      · exact .of_eq rfl
      · exact .of_eq (startTrip_events b _)
  · exact .of_eq rfl

theorem endClose_outcome {b : Fin 7} {k : Fin 6} (h : b ≠ breakerOf k) (o : CloseOutcome) (s : State) :
    (endClose b o s).wires.outcome[k] = s.wires.outcome[k] := by
  unfold endClose
  dsimp only
  split
  · rename_i j hj
    have hjk : j.val ≠ k.val := fun e => h ((feederOf_eq b j hj).trans (by rw [Fin.ext e]))
    simp [State.onBreaker, hjk]
  · rfl

theorem tripRequest_outcome {b : Fin 7} {k : Fin 6} (h : b ≠ breakerOf k) (s : State) :
    (tripRequest b s).wires.outcome[k] = s.wires.outcome[k] :=
  tripRequest_reads (p := fun x => x.wires.outcome[k]) b (fun _ _ => rfl)
    (fun s => congrArg (·[k]) (startTrip_outcome b s)) (endClose_outcome h _) (fun _ _ _ => rfl) s

theorem startTrip_started {b c : Fin 7} (h : c ≠ b) (s : State) :
    (startTrip c s).wires.tripStarted[b] = s.wires.tripStarted[b] := by
  have hv : c.val ≠ b.val := fun e => h (Fin.ext e)
  show (s.wires.tripStarted.set c true)[b] = _
  simp [hv]

theorem endClose_started (b : Fin 7) (o : CloseOutcome) (s : State) :
    (endClose b o s).wires.tripStarted = s.wires.tripStarted := by
  unfold endClose
  dsimp only
  split <;> rfl

theorem tripRequest_started {b c : Fin 7} (h : c ≠ b) (s : State) :
    (tripRequest c s).wires.tripStarted[b] = s.wires.tripStarted[b] :=
  tripRequest_reads (p := fun x => x.wires.tripStarted[b]) c (fun _ _ => rfl) (startTrip_started h)
    (fun s => congrArg (·[b]) (endClose_started c _ s)) (fun _ _ _ => rfl) s

/-! ## Phase-back -/

/-- What firing changes of the rectifier in PHASE_BACK: the pulses, the pending thyristor and its point, the angle. -/
def Rcu.settled (u v : Rcu) : Prop :=
  v.state = u.state ∧ v.blockTimer = u.blockTimer ∧ v.integ = u.integ ∧ v.sync = u.sync ∧ v.uset = u.uset ∧
    v.ovl = u.ovl ∧ v.ovp = u.ovp ∧ v.chopper = u.chopper

theorem Rcu.settled.trans {u v w : Rcu} : u.settled v → v.settled w → u.settled w := by
  rintro ⟨a1, a2, a3, a4, a5, a6, a7, a8⟩ ⟨b1, b2, b3, b4, b5, b6, b7, b8⟩
  exact ⟨b1.trans a1, b2.trans a2, b3.trans a3, b4.trans a4, b5.trans a5, b6.trans a6, b7.trans a7, b8.trans a8⟩

theorem fireDue_settled (fuel : Nat) (s : State) (h : s.rcu.state = .phaseBack) : s.rcu.settled (fireDue fuel s).rcu := by
  induction fuel generalizing s with
  | zero => exact ⟨rfl, rfl, rfl, rfl, rfl, rfl, rfl, rfl⟩
  | succ fuel ih =>
    rw [fireDue]
    split
    · exact ⟨rfl, rfl, rfl, rfl, rfl, rfl, rfl, rfl⟩
    · rename_i n _
      split
      · have h1 : (fireThyristor n s).rcu.state = .phaseBack := by simp [fireThyristor, nextAlpha, h]
        refine Rcu.settled.trans ?_ (ih _ h1)
        exact ⟨h1.trans h.symm, rfl, rfl, rfl, rfl, rfl, rfl, rfl⟩
      · exact ⟨rfl, rfl, rfl, rfl, rfl, rfl, rfl, rfl⟩

theorem repoint_settled (alpha : Nat) (s : State) (h : s.rcu.state = .phaseBack) :
    s.rcu.settled (repoint alpha s).rcu := by
  unfold repoint
  split
  · exact ⟨rfl, rfl, rfl, rfl, rfl, rfl, rfl, rfl⟩
  · exact Rcu.settled.trans ⟨rfl, rfl, rfl, rfl, rfl, rfl, rfl, rfl⟩ (fireDue_settled _ _ h)

theorem fireDue_alpha (fuel : Nat) (s : State) (h : s.rcu.state = .phaseBack) (ha : s.rcu.alpha = s.rect.aBlock) :
    (fireDue fuel s).rcu.alpha = s.rect.aBlock := by
  induction fuel generalizing s with
  | zero => exact ha
  | succ fuel ih =>
    rw [fireDue]
    split
    · exact ha
    · rename_i n _
      split
      · exact ih (fireThyristor n s) (by simp [fireThyristor, nextAlpha, h])
          (show (nextAlpha s).1 = s.rect.aBlock by simp [nextAlpha, h])
      · exact ha

theorem repoint_alpha (s : State) (h : s.rcu.state = .phaseBack) :
    (repoint s.rect.aBlock s).rcu.alpha = s.rect.aBlock := by
  unfold repoint
  split
  · rfl
  · exact fireDue_alpha _ (s.onRcu _) h rfl

/-- A phase-back request takes the angle of a rectifier that fires under the control to α_block, extends a phase-back
under way by its time, and leaves a BLOCKED or FIXED rectifier alone (R172). -/
theorem phaseBackRequest_cases (s : State) :
    ((s.rcu.state = .softStart ∨ s.rcu.state = .regulating) → (phaseBackRequest s).rcu.alpha = s.rect.aBlock) ∧
    (s.rcu.state = .phaseBack → (phaseBackRequest s).rcu = { s.rcu with blockTimer := s.rect.tBlock }) ∧
    (s.rcu.state = .blocked ∨ s.rcu.state = .fixed → (phaseBackRequest s).rcu = s.rcu) := by
  unfold phaseBackRequest
  cases h : s.rcu.state
  case softStart =>
    exact ⟨fun _ => repoint_alpha (s.onRcu fun u => { u with state := .phaseBack, integ := 0, blockTimer := s.rect.tBlock }) rfl,
      by simp, by simp⟩
  case regulating =>
    exact ⟨fun _ => repoint_alpha (s.onRcu fun u => { u with state := .phaseBack, integ := 0, blockTimer := s.rect.tBlock }) rfl,
      by simp, by simp⟩
  case phaseBack => exact ⟨by simp, fun _ => rfl, by simp⟩
  case blocked => exact ⟨by simp, by simp, fun _ => rfl⟩
  case fixed => exact ⟨by simp, by simp, fun _ => rfl⟩

/-- A phase-back request (R172). -/
theorem phaseBackRequest_rcu (s : State) :
    ((s.rcu.state = .softStart ∨ s.rcu.state = .regulating) → (phaseBackRequest s).rcu.state = .phaseBack ∧
      (phaseBackRequest s).rcu.blockTimer = s.rect.tBlock ∧ (phaseBackRequest s).rcu.integ = 0) ∧
    (phaseBackRequest s).rcu.sync = s.rcu.sync ∧ (phaseBackRequest s).rcu.uset = s.rcu.uset ∧
    (phaseBackRequest s).rcu.ovl = s.rcu.ovl ∧ (phaseBackRequest s).rcu.ovp = s.rcu.ovp ∧
    (phaseBackRequest s).rcu.chopper = s.rcu.chopper := by
  have key : ∀ x : State, x.rcu = { s.rcu with state := .phaseBack, integ := 0, blockTimer := s.rect.tBlock } →
      ∀ a, (repoint a x).rcu.state = .phaseBack ∧ (repoint a x).rcu.blockTimer = s.rect.tBlock ∧
        (repoint a x).rcu.integ = 0 ∧ (repoint a x).rcu.sync = s.rcu.sync ∧ (repoint a x).rcu.uset = s.rcu.uset ∧
        (repoint a x).rcu.ovl = s.rcu.ovl ∧ (repoint a x).rcu.ovp = s.rcu.ovp ∧
        (repoint a x).rcu.chopper = s.rcu.chopper := by
    intro x hx a
    obtain ⟨h1, h2, h3, h4, h5, h6, h7, h8⟩ := repoint_settled a x (by rw [hx])
    rw [h1, h2, h3, h4, h5, h6, h7, h8, hx]
    exact ⟨rfl, rfl, rfl, rfl, rfl, rfl, rfl, rfl⟩
  unfold phaseBackRequest
  split
  iterate 2
    obtain ⟨h1, h2, h3, h4, h5, h6, h7, h8⟩ := key
      (s.onRcu fun u => { u with state := .phaseBack, integ := 0, blockTimer := s.rect.tBlock }) rfl s.rect.aBlock
    exact ⟨fun _ => ⟨h1, h2, h3⟩, h4, h5, h6, h7, h8⟩
  all_goals
    rename_i h
    refine ⟨fun h' => ?_, rfl, rfl, rfl, rfl, rfl⟩
    rw [h] at h'
    rcases h' with h' | h' <;> cases h'

theorem phaseBackRequest_still (s : State) : (phaseBackRequest s).wires.still = s.wires.still := by
  have hr : ∀ a x, (repoint a x).wires = x.wires := fun a x => repoint_keeps (p := State.wires) (fun _ _ => rfl) a x
  unfold phaseBackRequest
  split <;> first | rfl | (simp only [emitRcu, emit_still, hr]; rfl)

theorem phaseBackRequest_grown (s : State) : Grown 1 s (phaseBackRequest s) := by
  have hr : ∀ a x, (repoint a x).wires = x.wires := fun a x => repoint_keeps (p := State.wires) (fun _ _ => rfl) a x
  unfold phaseBackRequest
  split
  iterate 2
    refine grown_emit (b := .rcu) (m := ⟨.rectifier, 0, .phaseBack, 1, some 1⟩) ?_ (by simp) (Nat.le_refl _)
    simp only [emitRcu, emit, onWires_wires, hr]
    rfl
  all_goals exact .of_eq rfl

/-! ## The trip matrix applied -/

/-- The trips of the rows raised. -/
def tripTurns (rows : List RowRaise) (s0 s : State) : State :=
  forAll 7 (fun b s => doIf (anyRow rows fun r => (appliedTrip s0 r).getLsbD b.val) (tripRequest b) s) s

/-- The intertrips of the rows raised. -/
def outTurns (rows : List RowRaise) (s0 s : State) : State :=
  forAll 6 (fun k s => doIf (anyRow rows fun r => (s0.matrixRow r).intertrip.getLsbD k.val) (setIntertrip k) s) s

/-- The reclose starts and the notices of the rows raised. -/
def noticeTurns (rows : List RowRaise) (s0 s : State) : State :=
  forAll 6 (fun k s => doIf (anyRow rows (noticeRow k)) (handNotice k) s)
    (forAll 6 (fun k s => doIf (anyRow rows fun r => (s0.matrixRow r).reclose && rowFeeder r == some k) (handStart k) s) s)

/-- The trip matrix applied, stage by stage. -/
theorem applyRows_eq (s : State) : applyRows s =
    noticeTurns s.wires.rows s (doIf (anyRow s.wires.rows fun r => (s.matrixRow r).record)
      (fun s => s.onWires fun w => { w with matrixTrigger := true })
      (doIf (anyRow s.wires.rows fun r => (s.matrixRow r).phaseBack) phaseBackRequest
        (outTurns s.wires.rows s (tripTurns s.wires.rows s
          (emitAll .su ((raisesInOrder s.wires.rows).map (tripEvent s)) (s.onWires fun w => { w with rows := [] })))))) :=
  rfl

variable {α : Type} {p : State → α}

theorem doIf_inv (P : State → Prop) {c : Bool} {f : State → State} {s : State} (h : P s) (hf : c = true → P s → P (f s)) :
    P (doIf c f s) := by
  unfold doIf
  split
  · rename_i hc
    exact hf hc h
  · exact h

theorem doIf_grown {c : Bool} {f : State → State} (h : ∀ s, Grown 1 s (f s)) (s : State) : Grown 1 s (doIf c f s) := by
  unfold doIf
  split
  · exact h s
  · exact .of_eq rfl

theorem setIntertrip_same (h : UnseenSbi p) (h2 : UnseenSu p) (k : Fin 6) (s : State) : p (setIntertrip k s) = p s :=
  setIntertrip_keeps h h2 k s

theorem outTurns_same (h : UnseenSbi p) (h2 : UnseenSu p) (rows : List RowRaise) (s0 s : State) :
    p (outTurns rows s0 s) = p s :=
  forAll_keeps p (fun k s => doIf_inv (fun x => p x = p s) rfl fun _ _ => setIntertrip_same h h2 k s) s

theorem noticeTurns_same (h : UnseenWires p) (rows : List RowRaise) (s0 s : State) :
    p (noticeTurns rows s0 s) = p s := by
  unfold noticeTurns
  rw [forAll_keeps p fun k s => doIf_inv (fun x => p x = p s) rfl fun _ _ => h s _,
    forAll_keeps p fun k s => doIf_inv (fun x => p x = p s) rfl fun _ _ => h s _]

theorem tripTurns_same (h : UnseenBdu p) (h2 : UnseenWires p) (rows : List RowRaise) (s0 s : State) :
    p (tripTurns rows s0 s) = p s :=
  forAll_keeps p (fun b s => doIf_inv (fun x => p x = p s) rfl fun _ _ => tripRequest_keeps h h2 b s) s

theorem phaseTurn_same (h : UnseenRcu p) (h2 : UnseenWires p) (c : Bool) (s : State) :
    p (doIf c phaseBackRequest s) = p s :=
  doIf_inv (fun x => p x = p s) rfl fun _ _ => phaseBackRequest_keeps h h2 s

theorem recTurn_same (h : UnseenWires p) (c : Bool) (f : Wires → Wires) (s : State) :
    p (doIf c (fun s => s.onWires f) s) = p s :=
  doIf_inv (fun x => p x = p s) rfl fun _ _ => h s f

theorem handStart_turns (c : Fin 6 → Bool) (s : State) : forAll 6 (fun k s => doIf (c k) (handStart k) s) s =
    s.onWires fun w => { w with starts := Vector.ofFn fun k => w.starts[k] || c k } := by
  generalize hX : forAll 6 (fun k s => doIf (c k) (handStart k) s) s = X
  have h1 : (X.onWires fun w => { w with starts := s.wires.starts }) =
      s.onWires fun w => { w with starts := s.wires.starts } := by
    rw [← hX]
    refine forAll_keeps (fun x => x.onWires fun w => { w with starts := s.wires.starts }) (fun k x => ?_) s
    exact doIf_inv (fun y => (y.onWires fun w => { w with starts := s.wires.starts }) = _) rfl fun _ _ => rfl
  have h2 : ∀ k : Fin 6, X.wires.starts[k] = (s.wires.starts[k] || c k) := by
    intro k
    rw [← hX]
    obtain ⟨s', h, h'⟩ := forAll_view (f := fun k s => doIf (c k) (handStart k) s) k (fun x => x.wires.starts[k])
      (fun i hi x => by
        have : i.val ≠ k.val := fun e => hi (Fin.ext e)
        unfold doIf handStart
        split <;> simp [this]) s
    rw [h', ← h]
    unfold doIf handStart
    split <;> rename_i hc <;> simp [hc]
  have h3 : X = (X.onWires fun w => { w with starts := s.wires.starts }).onWires fun w =>
      { w with starts := X.wires.starts } := rfl
  have h4 : X.wires.starts = Vector.ofFn fun k => s.wires.starts[k] || c k := by
    apply Vector.ext
    intro i hi
    rw [Vector.getElem_ofFn]
    exact h2 ⟨i, hi⟩
  rw [h3, h1, h4]
  rfl

theorem handNotice_turns (c : Fin 6 → Bool) (s : State) : forAll 6 (fun k s => doIf (c k) (handNotice k) s) s =
    s.onWires fun w => { w with rowNotice := Vector.ofFn fun k => w.rowNotice[k] || c k } := by
  generalize hX : forAll 6 (fun k s => doIf (c k) (handNotice k) s) s = X
  have h1 : (X.onWires fun w => { w with rowNotice := s.wires.rowNotice }) =
      s.onWires fun w => { w with rowNotice := s.wires.rowNotice } := by
    rw [← hX]
    refine forAll_keeps (fun x => x.onWires fun w => { w with rowNotice := s.wires.rowNotice }) (fun k x => ?_) s
    exact doIf_inv (fun y => (y.onWires fun w => { w with rowNotice := s.wires.rowNotice }) = _) rfl fun _ _ => rfl
  have h2 : ∀ k : Fin 6, X.wires.rowNotice[k] = (s.wires.rowNotice[k] || c k) := by
    intro k
    rw [← hX]
    obtain ⟨s', h, h'⟩ := forAll_view (f := fun k s => doIf (c k) (handNotice k) s) k (fun x => x.wires.rowNotice[k])
      (fun i hi x => by
        have : i.val ≠ k.val := fun e => hi (Fin.ext e)
        unfold doIf handNotice
        split <;> simp [this]) s
    rw [h', ← h]
    unfold doIf handNotice
    split <;> rename_i hc <;> simp [hc]
  have h3 : X = (X.onWires fun w => { w with rowNotice := s.wires.rowNotice }).onWires fun w =>
      { w with rowNotice := X.wires.rowNotice } := rfl
  have h4 : X.wires.rowNotice = Vector.ofFn fun k => s.wires.rowNotice[k] || c k := by
    apply Vector.ext
    intro i hi
    rw [Vector.getElem_ofFn]
    exact h2 ⟨i, hi⟩
  rw [h3, h1, h4]
  rfl

/-- The notices of the rows raised, in one. -/
theorem noticeTurns_eq (rows : List RowRaise) (s0 s : State) : noticeTurns rows s0 s =
    s.onWires fun w =>
      { w with
        starts := Vector.ofFn fun k => w.starts[k] ||
          anyRow rows fun r => (s0.matrixRow r).reclose && rowFeeder r == some k
        rowNotice := Vector.ofFn fun k => w.rowNotice[k] || anyRow rows (noticeRow k) } := by
  unfold noticeTurns
  rw [handStart_turns, handNotice_turns]
  rfl

theorem recTurn_eq (c : Bool) (s : State) : doIf c (fun s => s.onWires fun w => { w with matrixTrigger := true }) s =
    s.onWires fun w => { w with matrixTrigger := w.matrixTrigger || c } := by
  cases c
  · simp only [doIf, Bool.or_false]
    rfl
  · simp only [doIf, Bool.or_true]
    rfl

/-- The rows applied up to what reaches the sequences and the recorder. -/
def rowsTaken (s : State) : State :=
  doIf (anyRow s.wires.rows fun r => (s.matrixRow r).phaseBack) phaseBackRequest
    (outTurns s.wires.rows s (tripTurns s.wires.rows s
      (emitAll .su ((raisesInOrder s.wires.rows).map (tripEvent s)) (s.onWires fun w => { w with rows := [] }))))

/-- What the trip matrix tells the sequences and the recorder. -/
theorem applyRows_told (s : State) : applyRows s = (rowsTaken s).onWires fun w =>
    { w with
      matrixTrigger := w.matrixTrigger || anyRow s.wires.rows fun r => (s.matrixRow r).record
      starts := Vector.ofFn fun k => w.starts[k] ||
        anyRow s.wires.rows fun r => (s.matrixRow r).reclose && rowFeeder r == some k
      rowNotice := Vector.ofFn fun k => w.rowNotice[k] || anyRow s.wires.rows (noticeRow k) } := by
  rw [applyRows_eq, noticeTurns_eq, recTurn_eq]
  rfl

theorem tripTurns_still (rows : List RowRaise) (s0 s : State) : (tripTurns rows s0 s).wires.still = s.wires.still :=
  forAll_keeps (fun x => x.wires.still)
    (fun b s => doIf_inv (fun x => x.wires.still = s.wires.still) rfl fun _ _ => tripRequest_still b s) s

theorem tripTurns_grown (rows : List RowRaise) (s0 s : State) : Grown (7 * 1) s (tripTurns rows s0 s) :=
  grown_forAll (fun b s => doIf_grown (tripRequest_grown b) s) s

/-- The wires after the rows are applied, but for records, close outcomes and trip starts. -/
theorem rowsTaken_still (s : State) : (rowsTaken s).wires.still = { s.wires with rows := [] }.still := by
  unfold rowsTaken
  generalize hx : tripTurns _ _ _ = x
  have h1 : x.wires.still = { s.wires with rows := [] }.still := by
    rw [← hx, tripTurns_still]
    rfl
  generalize hy : outTurns _ _ x = y
  have h2 : y.wires = x.wires := by
    rw [← hy]
    exact outTurns_same (p := State.wires) (fun _ _ => rfl) (fun _ _ => rfl) _ _ _
  refine doIf_inv (fun z => z.wires.still = _) ?_ fun _ h => ?_
  · rw [h2, h1]
  · rw [phaseBackRequest_still]
    exact h

/-- The records that the rows give: their TRIP events, and at most eight more. -/
theorem rowsTaken_grown (s : State) : ∃ new, (rowsTaken s).wires.events =
      s.wires.events ++ ((raisesInOrder s.wires.rows).map fun x => (Block.su, tripEvent s x)) ++ new ∧
    new.length ≤ 8 ∧ ∀ e ∈ new, e.2.code ≠ .opened ∧ e.2.code ≠ .counterOverflow := by
  unfold rowsTaken
  generalize hw : emitAll _ _ _ = w
  have h0 : w.wires.events =
      s.wires.events ++ (raisesInOrder s.wires.rows).map fun x => (Block.su, tripEvent s x) := by
    rw [← hw]
    simp [emitAll, Function.comp_def]
  generalize hx : tripTurns _ _ w = x
  have h1 : Grown (7 * 1) w x := by
    rw [← hx]
    exact tripTurns_grown _ _ _
  generalize hy : outTurns _ _ x = y
  have h2 : y.wires = x.wires := by
    rw [← hy]
    exact outTurns_same (p := State.wires) (fun _ _ => rfl) (fun _ _ => rfl) _ _ _
  obtain ⟨new, h3, h4, h5⟩ := (h1.trans (.of_eq (c := 0) (by rw [h2]))).trans
    (doIf_grown (c := anyRow s.wires.rows fun r => (s.matrixRow r).phaseBack) phaseBackRequest_grown y)
  exact ⟨new, by rw [h3, h0], h4, h5⟩

theorem rowsTaken_same (h1 : UnseenSbi p) (h2 : UnseenSu p) (h3 : UnseenBdu p) (h4 : UnseenRcu p) (h5 : UnseenWires p)
    (s : State) : p (rowsTaken s) = p s := by
  unfold rowsTaken
  rw [phaseTurn_same h4 h5, outTurns_same h1 h2, tripTurns_same h3 h5, emitAll_keeps h5, h5]

/-- The trips of the rows raised reach the breakers and their channels alone. -/
theorem rowsTaken_bdu (s : State) : ∃ x : State, x.bdu = s.bdu ∧ x.su = s.su ∧ x.straps = s.straps ∧
    x.wires.outcome = s.wires.outcome ∧ (rowsTaken s).bdu = (tripTurns s.wires.rows s x).bdu ∧
      (rowsTaken s).wires.outcome = (tripTurns s.wires.rows s x).wires.outcome := by
  refine ⟨emitAll .su ((raisesInOrder s.wires.rows).map (tripEvent s)) (s.onWires fun w => { w with rows := [] }),
    rfl, rfl, rfl, rfl, ?_, ?_⟩
  · unfold rowsTaken
    rw [phaseTurn_same (p := State.bdu) (fun _ _ => rfl) (fun _ _ => rfl),
      outTurns_same (p := State.bdu) (fun _ _ => rfl) (fun _ _ => rfl)]
  · have ho : ∀ x, (phaseBackRequest x).wires.outcome = x.wires.outcome := by
      intro x
      have hr : ∀ a x, (repoint a x).wires = x.wires := fun a x =>
        repoint_keeps (p := State.wires) (fun _ _ => rfl) a x
      unfold phaseBackRequest
      split <;> first | rfl | (simp only [emitRcu, emit, onWires_wires, hr]; rfl)
    unfold rowsTaken
    refine Eq.trans (doIf_inv (fun y => y.wires.outcome = _) rfl fun _ _ => ho _) ?_
    exact outTurns_same (p := fun x => x.wires.outcome) (fun _ _ => rfl) (fun _ _ => rfl) _ _ _

/-- One breaker after the rows are applied. -/
theorem rowsTaken_breaker (s : State) (b : Fin 7) :
    ((anyRow s.wires.rows fun r => (appliedTrip s r).getLsbD b.val) = false →
      (rowsTaken s).breaker b = s.breaker b ∧ (rowsTaken s).drive (tripChannel b) = s.drive (tripChannel b) ∧
        (rowsTaken s).drive (closeChannel b) = s.drive (closeChannel b)) ∧
    ((anyRow s.wires.rows fun r => (appliedTrip s r).getLsbD b.val) = true → ∃ x : State, x.bview b = s.bview b ∧
      (rowsTaken s).breaker b = (tripRequest b x).breaker b ∧
      (rowsTaken s).drive (tripChannel b) = (tripRequest b x).drive (tripChannel b) ∧
      (rowsTaken s).drive (closeChannel b) = (tripRequest b x).drive (closeChannel b)) := by
  obtain ⟨x, hb, hu, hs, _, h, _⟩ := rowsTaken_bdu s
  have hv : x.bview b = s.bview b := bview_of_bdu b hb hu hs
  have hparts : ∀ y z : State, y.bdu = z.bdu → y.breaker b = z.breaker b ∧
      y.drive (tripChannel b) = z.drive (tripChannel b) ∧ y.drive (closeChannel b) = z.drive (closeChannel b) := by
    intro y z e
    simp [State.breaker, State.drive, e]
  obtain ⟨y, hy, hy'⟩ := forAll_view
    (f := fun b s' => doIf (anyRow s.wires.rows fun r => (appliedTrip s r).getLsbD b.val) (tripRequest b) s') b
    (fun z => z.bview b)
    (fun i hi z => doIf_inv (fun w => w.bview b = z.bview b) rfl fun _ _ => tripRequest_bview hi z) x
  obtain ⟨p1, p2, p3⟩ := hparts _ _ h
  rw [p1, p2, p3]
  have hy'' : (tripTurns s.wires.rows s x).bview b = _ := hy'
  constructor
  · intro hm
    rw [hm] at hy''
    have := hy''.trans (hy.trans hv)
    rw [bview_eq] at this
    exact ⟨this.1, this.2.1, this.2.2.1⟩
  · intro hm
    rw [hm] at hy''
    refine ⟨y, hy.trans hv, ?_⟩
    have : (tripTurns s.wires.rows s x).bview b = (tripRequest b y).bview b := hy''
    rw [bview_eq] at this
    exact ⟨this.1, this.2.1, this.2.2.1⟩

theorem startTrip_test (b : Fin 7) (k : Fin 6) (s : State) :
    (startTrip b s).drive (testChannel k) = s.drive (testChannel k) := by
  unfold startTrip
  dsimp only
  rw [onBreaker_drive]
  show State.drive (State.onDrive _ _ _) _ = _
  rw [drive_onDrive_ne _ (trip_ne_test b k), drive_onDrive_ne _ (close_ne_test b k)]

theorem tripRequest_test (b : Fin 7) (k : Fin 6) (s : State) :
    (tripRequest b s).drive (testChannel k) = s.drive (testChannel k) :=
  tripRequest_reads (p := fun x => x.drive (testChannel k)) b (fun s f => onBreaker_drive s b f _)
    (startTrip_test b k) (fun s => endClose_drive b _ s _) (fun _ _ _ => rfl) s

theorem rowsTaken_test (s : State) (k : Fin 6) : (rowsTaken s).drive (testChannel k) = s.drive (testChannel k) := by
  obtain ⟨x, hb, _, _, _, h, _⟩ := rowsTaken_bdu s
  have h1 : (rowsTaken s).drive (testChannel k) = (tripTurns s.wires.rows s x).drive (testChannel k) := by
    unfold State.drive
    rw [h]
  have h2 : x.drive (testChannel k) = s.drive (testChannel k) := by
    unfold State.drive
    rw [hb]
  rw [h1, ← h2]
  exact forAll_keeps (fun z => z.drive (testChannel k))
    (fun b z => doIf_inv (fun w => w.drive (testChannel k) = z.drive (testChannel k)) rfl fun _ _ =>
      tripRequest_test b k z) x

theorem rowsTaken_outcome (s : State) (k : Fin 6)
    (hm : (anyRow s.wires.rows fun r => (appliedTrip s r).getLsbD k.val) = false) :
    (rowsTaken s).wires.outcome[k] = s.wires.outcome[k] := by
  obtain ⟨x, _, _, _, ho, _, h⟩ := rowsTaken_bdu s
  rw [h, ← ho]
  refine forAll_keeps (fun z => z.wires.outcome[k]) (fun b z => ?_) x
  refine doIf_inv (fun w => w.wires.outcome[k] = z.wires.outcome[k]) rfl fun hc _ => ?_
  refine tripRequest_outcome (fun e => ?_) z
  rw [e, breakerOf_val, hm] at hc
  cases hc

theorem rowsTaken_started (s : State) (b : Fin 7)
    (hm : (anyRow s.wires.rows fun r => (appliedTrip s r).getLsbD b.val) = false) :
    (rowsTaken s).wires.tripStarted[b] = s.wires.tripStarted[b] := by
  have hp : ∀ x, (phaseBackRequest x).wires.tripStarted = x.wires.tripStarted := by
    intro x
    have hr : ∀ a x, (repoint a x).wires = x.wires := fun a x =>
      repoint_keeps (p := State.wires) (fun _ _ => rfl) a x
    unfold phaseBackRequest
    split <;> first | rfl | (simp only [emitRcu, emit, onWires_wires, hr]; rfl)
  unfold rowsTaken
  refine (congrArg (·[b]) (doIf_inv (fun y => y.wires.tripStarted = _) rfl fun _ _ => hp _)).trans ?_
  refine (congrArg (·[b]) (outTurns_same (p := fun x => x.wires.tripStarted) (fun _ _ => rfl) (fun _ _ => rfl)
    _ _ _)).trans ?_
  refine forAll_keeps (fun z : State => z.wires.tripStarted[b]) (fun c z => ?_) _
  refine doIf_inv (fun w => w.wires.tripStarted[b] = z.wires.tripStarted[b]) rfl fun hc _ => ?_
  refine tripRequest_started (fun e => ?_) z
  rw [e, hm] at hc
  cases hc

theorem outTurns_sbi (rows : List RowRaise) (s0 s : State) (c) :
    { (outTurns rows s0 s).sbi with commands := c } = { s.sbi with commands := c } := by
  refine forAll_keeps (fun x : State => { x.sbi with commands := c }) (fun k x => ?_) s
  unfold doIf setIntertrip
  dsimp only
  (repeat' split) <;> rfl

theorem rowsTaken_sbi (s : State) : (rowsTaken s).sbi = { s.sbi with commands := (rowsTaken s).sbi.commands } := by
  have h : (rowsTaken s).sbi = (outTurns s.wires.rows s (tripTurns s.wires.rows s
      (emitAll .su ((raisesInOrder s.wires.rows).map (tripEvent s)) (s.onWires fun w => { w with rows := [] })))).sbi :=
    phaseTurn_same (p := State.sbi) (fun _ _ => rfl) (fun _ _ => rfl) _ _
  have h2 := outTurns_sbi s.wires.rows s (tripTurns s.wires.rows s
    (emitAll .su ((raisesInOrder s.wires.rows).map (tripEvent s)) (s.onWires fun w => { w with rows := [] })))
    (rowsTaken s).sbi.commands
  rw [← h, tripTurns_same (p := State.sbi) (fun _ _ => rfl) (fun _ _ => rfl)] at h2
  exact h2

theorem outTurns_su (rows : List RowRaise) (s0 s : State) (c) :
    { (outTurns rows s0 s).su with holds := c } = { s.su with holds := c } := by
  refine forAll_keeps (fun x : State => { x.su with holds := c }) (fun k x => ?_) s
  unfold doIf setIntertrip
  dsimp only
  (repeat' split) <;> rfl

theorem rowsTaken_su (s : State) : (rowsTaken s).su = { s.su with holds := (rowsTaken s).su.holds } := by
  have h : (rowsTaken s).su = (outTurns s.wires.rows s (tripTurns s.wires.rows s
      (emitAll .su ((raisesInOrder s.wires.rows).map (tripEvent s)) (s.onWires fun w => { w with rows := [] })))).su :=
    phaseTurn_same (p := State.su) (fun _ _ => rfl) (fun _ _ => rfl) _ _
  have h2 := outTurns_su s.wires.rows s (tripTurns s.wires.rows s
    (emitAll .su ((raisesInOrder s.wires.rows).map (tripEvent s)) (s.onWires fun w => { w with rows := [] })))
    (rowsTaken s).su.holds
  rw [← h, tripTurns_same (p := State.su) (fun _ _ => rfl) (fun _ _ => rfl)] at h2
  exact h2

/-- The rows reach the rectifier through the phase-back request alone. -/
theorem rowsTaken_phase (s : State) : ∃ x : State, x.rcu = s.rcu ∧ x.rect = s.rect ∧
    (rowsTaken s).rcu = (doIf (anyRow s.wires.rows fun r => (s.matrixRow r).phaseBack) phaseBackRequest x).rcu := by
  unfold rowsTaken
  generalize hx : outTurns _ _ _ = x
  have hr : x.rcu = s.rcu := by
    rw [← hx, outTurns_same (p := State.rcu) (fun _ _ => rfl) (fun _ _ => rfl),
      tripTurns_same (p := State.rcu) (fun _ _ => rfl) (fun _ _ => rfl)]
    rfl
  have hv : x.rect = s.rect := by
    rw [← hx]
    have h : ∀ k y, (setIntertrip k y).su.inUse = y.su.inUse := by
      intro k y
      unfold setIntertrip
      dsimp only
      split <;> rfl
    unfold State.rect
    rw [show (outTurns _ _ _).su.inUse = _ from forAll_keeps (fun z => z.su.inUse)
      (fun k y => doIf_inv (fun z => z.su.inUse = y.su.inUse) rfl fun _ _ => h k y) _,
      tripTurns_same (p := fun z => z.su.inUse) (fun _ _ => rfl) (fun _ _ => rfl)]
    rfl
  exact ⟨x, hr, hv, rfl⟩

/-- The rectifier after the rows are applied (R172). -/
theorem rowsTaken_rcu (s : State) :
    ((anyRow s.wires.rows fun r => (s.matrixRow r).phaseBack) = true →
      (s.rcu.state = .softStart ∨ s.rcu.state = .regulating) → (rowsTaken s).rcu.state = .phaseBack ∧
        (rowsTaken s).rcu.blockTimer = s.rect.tBlock ∧ (rowsTaken s).rcu.integ = 0 ∧
        (rowsTaken s).rcu.alpha = s.rect.aBlock) ∧
    ((anyRow s.wires.rows fun r => (s.matrixRow r).phaseBack) = true → s.rcu.state = .phaseBack →
      (rowsTaken s).rcu = { s.rcu with blockTimer := s.rect.tBlock }) ∧
    ((anyRow s.wires.rows fun r => (s.matrixRow r).phaseBack) = false ∨ s.rcu.state = .blocked ∨ s.rcu.state = .fixed →
      (rowsTaken s).rcu = s.rcu) ∧
    (rowsTaken s).rcu.sync = s.rcu.sync ∧ (rowsTaken s).rcu.uset = s.rcu.uset ∧ (rowsTaken s).rcu.ovl = s.rcu.ovl ∧
    (rowsTaken s).rcu.ovp = s.rcu.ovp ∧ (rowsTaken s).rcu.chopper = s.rcu.chopper := by
  obtain ⟨x, hr, hv, h⟩ := rowsTaken_phase s
  rw [h]
  unfold doIf
  split
  · rename_i hc
    obtain ⟨h1, h2⟩ := phaseBackRequest_rcu x
    obtain ⟨h3, h4, h5⟩ := phaseBackRequest_cases x
    rw [hr, hv] at h1 h3 h4
    rw [hr] at h2 h5
    refine ⟨fun _ hs => ?_, fun _ => h4, fun hs => ?_, h2⟩
    · obtain ⟨a, b, c⟩ := h1 hs
      exact ⟨a, b, c, h3 hs⟩
    · rcases hs with hs | hs
      · rw [hs] at hc; cases hc
      · exact h5 hs
  · rename_i hc
    rw [hr]
    exact ⟨fun h => absurd h hc, fun h => absurd h hc, fun _ => rfl, rfl, rfl, rfl, rfl, rfl⟩

/-! ## Intertrip-out -/

theorem setCommandBit_set (word bit : Nat) (s : State) (w : Fin 16) (hw : w.val = word) (hb : bit < 16) :
    (setCommandBit word bit true s).sbi.commands[w].getLsbD bit = true := by
  simp [setCommandBit, setBit, hw, hb]

theorem setCommandBit_keeps_set (word bit : Nat) (s : State) (w : Fin 16) (j : Nat)
    (h : s.sbi.commands[w].getLsbD j = true) : (setCommandBit word bit true s).sbi.commands[w].getLsbD j = true := by
  by_cases hw : w.val = word
  · simp only [setCommandBit, onSbi_sbi, Fin.getElem_fin, Vector.getElem_ofFn, hw, if_true, setBit,
      BitVec.getLsbD_or] at h ⊢
    simp [← hw] at h ⊢
    simp [h]
  · simpa [setCommandBit, hw] using h

/-- The settings in use of two states agree. -/
def SameSettings (s x : State) : Prop := x.su.inUse = s.su.inUse ∧ x.straps = s.straps

/-- A feeder's intertrip-out bit and hold are set. -/
structure OutSet (s : State) (k : Fin 6) (x : State) : Prop where
  same : SameSettings s x
  bit : ∀ w : Fin 16, w.val = (s.feederRec k).outWord → (s.feederRec k).outBit < 16 →
    x.sbi.commands[w].getLsbD (s.feederRec k).outBit = true
  hold : x.su.holds[k] = ⟨true, 0⟩

theorem setIntertrip_settings {s : State} (j : Fin 6) {x : State} (h : SameSettings s x) :
    SameSettings s (setIntertrip j x) := by
  refine ⟨Eq.trans ?_ h.1, (setIntertrip_keeps (p := State.straps) (fun _ _ => rfl) (fun _ _ => rfl) j x).trans h.2⟩
  unfold setIntertrip
  dsimp only
  split
  · simp [setCommandBit]
  · rfl

theorem setIntertrip_other {s : State} {j k : Fin 6} (hj : j ≠ k) {x : State} (h : OutSet s k x) :
    OutSet s k (setIntertrip j x) := by
  have hv : j.val ≠ k.val := fun e => hj (Fin.ext e)
  refine ⟨setIntertrip_settings j h.same, ?_, ?_⟩ <;> unfold setIntertrip <;> dsimp only <;> split
  · exact fun w hw hb => setCommandBit_keeps_set _ _ x w _ (h.bit w hw hb)
  · exact h.bit
  · have := h.hold
    simp only [Fin.getElem_fin] at this
    simp [hv, setCommandBit, this]
  · exact h.hold

theorem setIntertrip_own {s : State} {k : Fin 6} (hp : (s.feederRec k).outPresent = true) {x : State}
    (h : SameSettings s x) : OutSet s k (setIntertrip k x) := by
  have hf : x.feederRec k = s.feederRec k := by
    unfold State.feederRec
    rw [h.1, h.2]
  refine ⟨setIntertrip_settings k h, ?_, ?_⟩ <;> unfold setIntertrip <;> dsimp only <;> rw [hf, if_pos hp]
  · exact fun w hw hb => setCommandBit_set _ _ x w hw hb
  · simp

theorem outTurns_set (rows : List RowRaise) (s x : State) (k : Fin 6)
    (hm : (anyRow rows fun r => (s.matrixRow r).intertrip.getLsbD k.val) = true)
    (hp : (s.feederRec k).outPresent = true) (h : SameSettings s x) : OutSet s k (outTurns rows s x) := by
  obtain ⟨l1, l2, h1, h2, he⟩ := forAll_split k
  unfold outTurns
  rw [he]
  refine foldl_inv (OutSet s k) (fun i hi y hy => doIf_inv (OutSet s k) hy fun _ hy =>
    setIntertrip_other (fun (e : i = k) => h2 (e ▸ hi)) hy) _ ?_
  rw [hm]
  exact setIntertrip_own hp (foldl_inv (SameSettings s) (fun i _ y hy => doIf_inv (SameSettings s) hy fun _ hy =>
    setIntertrip_settings i hy) _ h)

/-- The intertrip-out bit and hold of a feeder in an intertrip-out mask of a row raised (R110). -/
theorem rowsTaken_intertrip (s : State) (k : Fin 6)
    (hm : (anyRow s.wires.rows fun r => (s.matrixRow r).intertrip.getLsbD k.val) = true)
    (hp : (s.feederRec k).outPresent = true) : OutSet s k (rowsTaken s) := by
  unfold rowsTaken
  generalize hx : tripTurns _ _ _ = x
  have h0 : SameSettings s x := by
    have h1 : x.su = s.su := by
      rw [← hx, tripTurns_same (p := State.su) (fun _ _ => rfl) (fun _ _ => rfl)]
      rfl
    have h2 : x.straps = s.straps := by
      rw [← hx, tripTurns_same (p := State.straps) (fun _ _ => rfl) (fun _ _ => rfl)]
      rfl
    exact ⟨by rw [h1], h2⟩
  have h := outTurns_set s.wires.rows s x k hm hp h0
  generalize outTurns _ _ x = y at h
  have e1 : (doIf (anyRow s.wires.rows fun r => (s.matrixRow r).phaseBack) phaseBackRequest y).sbi = y.sbi :=
    phaseTurn_same (p := State.sbi) (fun _ _ => rfl) (fun _ _ => rfl) _ _
  have e2 : (doIf (anyRow s.wires.rows fun r => (s.matrixRow r).phaseBack) phaseBackRequest y).su = y.su :=
    phaseTurn_same (p := State.su) (fun _ _ => rfl) (fun _ _ => rfl) _ _
  have e3 : (doIf (anyRow s.wires.rows fun r => (s.matrixRow r).phaseBack) phaseBackRequest y).straps = y.straps :=
    phaseTurn_same (p := State.straps) (fun _ _ => rfl) (fun _ _ => rfl) _ _
  refine ⟨⟨?_, ?_⟩, ?_, ?_⟩
  · rw [e2]; exact h.same.1
  · rw [e3]; exact h.same.2
  · rw [e1]; exact h.bit
  · rw [e2]; exact h.hold

theorem setCommandBit_other (word bit : Nat) (v : Bool) (s : State) (w : Fin 16) (j : Nat)
    (h : ¬ (w.val = word ∧ j = bit)) :
    (setCommandBit word bit v s).sbi.commands[w].getLsbD j = s.sbi.commands[w].getLsbD j := by
  by_cases hw : w.val = word
  · have hj : j ≠ bit := fun e => h ⟨hw, e⟩
    cases v
    · simp only [setCommandBit, onSbi_sbi, Fin.getElem_fin, Vector.getElem_ofFn, hw, if_true, setBit,
        Bool.false_eq_true, if_false, BitVec.getLsbD_and, BitVec.getLsbD_not, BitVec.getLsbD_shiftLeft,
        BitVec.getLsbD_one]
      subst hw
      by_cases h16 : j < 16
      · have : ¬ (¬ j < w.val ∧ False) := by simp
        by_cases hjb : j < bit
        · simp [h16, hjb]
        · have h0 : j - bit ≠ 0 := by omega
          simp [h16, hjb, h0]
      · simp [BitVec.getLsbD_of_ge _ _ (Nat.le_of_not_lt h16)]
    · simp only [setCommandBit, onSbi_sbi, Fin.getElem_fin, Vector.getElem_ofFn, hw, if_true, setBit,
        BitVec.getLsbD_or, BitVec.getLsbD_shiftLeft, BitVec.getLsbD_one]
      subst hw
      by_cases hjb : j < bit
      · simp [hjb]
      · have h0 : j - bit ≠ 0 := by omega
        simp [h0]
  · simp [setCommandBit, hw]

theorem setIntertrip_sbi (k : Fin 6) (s : State) : (setIntertrip k s).sbi =
    if (s.feederRec k).outPresent then (setCommandBit (s.feederRec k).outWord (s.feederRec k).outBit true s).sbi
    else s.sbi := by
  unfold setIntertrip
  dsimp only
  split <;> rfl

theorem setIntertrip_holds (k : Fin 6) (s : State) : (setIntertrip k s).su.holds =
    if (s.feederRec k).outPresent then s.su.holds.set k ⟨true, 0⟩ else s.su.holds := by
  unfold setIntertrip
  dsimp only
  split <;> rfl

/-- The rows leave a command bit that no named feeder owns, and the hold of a feeder not named (R110). -/
theorem outTurns_other (rows : List RowRaise) (s x : State) (h : SameSettings s x) :
    (∀ (w : Fin 16) (j : Nat), (∀ k : Fin 6, (anyRow rows fun r => (s.matrixRow r).intertrip.getLsbD k.val) = true →
        (s.feederRec k).outPresent = true → ¬ (w.val = (s.feederRec k).outWord ∧ j = (s.feederRec k).outBit)) →
      (outTurns rows s x).sbi.commands[w].getLsbD j = x.sbi.commands[w].getLsbD j) ∧
    (∀ k : Fin 6, (anyRow rows fun r => (s.matrixRow r).intertrip.getLsbD k.val) = false ∨
        (s.feederRec k).outPresent = false → (outTurns rows s x).su.holds[k] = x.su.holds[k]) := by
  have hrec : ∀ {y : State}, SameSettings s y → ∀ k, y.feederRec k = s.feederRec k := by
    intro y hy k
    unfold State.feederRec
    rw [hy.1, hy.2]
  constructor
  · intro w j hk
    unfold outTurns
    refine (forAll_inv (fun y : State => SameSettings s y ∧
      y.sbi.commands[w].getLsbD j = x.sbi.commands[w].getLsbD j) (fun k y hy => ?_) x ⟨h, rfl⟩).2
    refine doIf_inv (fun z : State => SameSettings s z ∧ z.sbi.commands[w].getLsbD j = x.sbi.commands[w].getLsbD j) hy
      fun hm hz => ⟨setIntertrip_settings k hz.1, ?_⟩
    rw [setIntertrip_sbi, hrec hz.1]
    split
    · rename_i hp
      rw [setCommandBit_other _ _ _ _ _ _ (hk k hm hp)]
      exact hz.2
    · exact hz.2
  · intro k hk
    unfold outTurns
    refine (forAll_inv (fun y : State => SameSettings s y ∧ y.su.holds[k] = x.su.holds[k]) (fun i y hy => ?_) x
      ⟨h, rfl⟩).2
    refine doIf_inv (fun z : State => SameSettings s z ∧ z.su.holds[k] = x.su.holds[k]) hy fun hm hz =>
      ⟨setIntertrip_settings i hz.1, ?_⟩
    rw [setIntertrip_holds, hrec hz.1]
    split
    · rename_i hp
      have hik : i.val ≠ k.val := by
        intro e
        have e : i = k := Fin.ext e
        subst e
        rcases hk with hk | hk
        · rw [hm] at hk; cases hk
        · rw [hp] at hk; cases hk
      have h2 := hz.2
      simp only [Fin.getElem_fin] at h2
      simp [hik, h2]
    · exact hz.2

theorem rowsTaken_other (s : State) :
    (∀ (w : Fin 16) (j : Nat),
      (∀ k : Fin 6, (anyRow s.wires.rows fun r => (s.matrixRow r).intertrip.getLsbD k.val) = true →
        (s.feederRec k).outPresent = true → ¬ (w.val = (s.feederRec k).outWord ∧ j = (s.feederRec k).outBit)) →
      (rowsTaken s).sbi.commands[w].getLsbD j = s.sbi.commands[w].getLsbD j) ∧
    (∀ k : Fin 6, (anyRow s.wires.rows fun r => (s.matrixRow r).intertrip.getLsbD k.val) = false ∨
        (s.feederRec k).outPresent = false → (rowsTaken s).su.holds[k] = s.su.holds[k]) := by
  unfold rowsTaken
  generalize hx : tripTurns _ _ _ = x
  have h1 : x.su = s.su := by
    rw [← hx, tripTurns_same (p := State.su) (fun _ _ => rfl) (fun _ _ => rfl)]
    rfl
  have h2 : x.straps = s.straps := by
    rw [← hx, tripTurns_same (p := State.straps) (fun _ _ => rfl) (fun _ _ => rfl)]
    rfl
  have h3 : x.sbi = s.sbi := by
    rw [← hx, tripTurns_same (p := State.sbi) (fun _ _ => rfl) (fun _ _ => rfl)]
    rfl
  have h := outTurns_other s.wires.rows s x ⟨by rw [h1], h2⟩
  rw [h1, h3] at h
  generalize outTurns _ _ x = y at h
  have e1 : (doIf (anyRow s.wires.rows fun r => (s.matrixRow r).phaseBack) phaseBackRequest y).sbi = y.sbi :=
    phaseTurn_same (p := State.sbi) (fun _ _ => rfl) (fun _ _ => rfl) _ _
  have e2 : (doIf (anyRow s.wires.rows fun r => (s.matrixRow r).phaseBack) phaseBackRequest y).su = y.su :=
    phaseTurn_same (p := State.su) (fun _ _ => rfl) (fun _ _ => rfl) _ _
  rw [e1, e2]
  exact h

/-! ## Breakers settle -/

/-- A breaker for which settling has nothing to hand on: no target reached but by a trip that has just begun, and no
failed operation at its end. -/
structure State.Steady (s : State) (b : Fin 7) : Prop where
  target : (s.breaker b).op ≠ .none → (s.breaker b).op.target = some (s.breaker b).position →
    (s.breaker b).op = .tripping ∧ (s.breaker b).moved = false
  failed : (s.breaker b).failedEnd (s.drive (tripChannel b)) = false

/-- The settling of one breaker after the rows of a command are applied. -/
def settleTurn (b : Fin 7) (s : State) : State := settleBreaker (s.breaker b).position b (dutyStart b s)

theorem dutyStart_bview (c b : Fin 7) (s : State) : (dutyStart c s).bview b = s.bview b :=
  dutyStart_keeps (p := fun s => s.bview b) (fun _ _ => rfl) c s

theorem dutyStart_drive (b : Fin 7) (s : State) (c : Fin 20) : (dutyStart b s).drive c = s.drive c :=
  dutyStart_keeps (p := fun s => s.drive c) (fun _ _ => rfl) b s

theorem dutyStart_breaker (b : Fin 7) (s : State) (c : Fin 7) : (dutyStart b s).breaker c = s.breaker c :=
  dutyStart_keeps (p := fun s => s.breaker c) (fun _ _ => rfl) b s

/-- What settling a steady breaker does: nothing, or it ends the trip that has its target at once. -/
theorem settleTurn_steady {s : State} {b : Fin 7} (h : s.Steady b) :
    settleTurn b s = dutyStart b s ∧ ¬ ((s.breaker b).op ≠ .none ∧
        (s.breaker b).op.target = some (s.breaker b).position) ∨
      (s.breaker b).op = .tripping ∧ (s.breaker b).position = .opn ∧
        settleTurn b s = ((dutyStart b s).onDrive (tripChannel b) Drive.endHold).onBreaker b fun x =>
          { x with op := .none, count := 0, moved := false } := by
  have hb := dutyStart_breaker b s b
  have hd := dutyStart_drive b s (tripChannel b)
  by_cases ht : (s.breaker b).op ≠ .none ∧ (s.breaker b).op.target = some (s.breaker b).position
  · right
    obtain ⟨h1, h2⟩ := h.target ht.1 ht.2
    have hp : (s.breaker b).position = .opn := by
      have := ht.2
      rw [h1] at this
      exact (Option.some.inj this).symm
    refine ⟨h1, hp, ?_⟩
    unfold settleTurn settleBreaker
    dsimp only
    rw [hb, if_pos ht]
    unfold endOnTarget
    dsimp only
    rw [hb, h1, h2]
    simp [opChannel]
  · left
    refine ⟨?_, ht⟩
    unfold settleTurn settleBreaker
    dsimp only
    rw [hb, if_neg ht]
    simp only [positionEvents, if_true, ite_self, hd, h.failed, Bool.false_eq_true, if_false]

theorem Steady_of_bview {s t : State} {b : Fin 7} (h : s.bview b = t.bview b) (hs : t.Steady b) : s.Steady b := by
  obtain ⟨h1, h2, _⟩ := bview_eq.mp h
  exact ⟨by rw [h1]; exact hs.target, by rw [h1, h2]; exact hs.failed⟩

theorem settleTurn_wires {s : State} {b : Fin 7} (h : s.Steady b) : (settleTurn b s).wires = s.wires := by
  have hd : (dutyStart b s).wires = s.wires := dutyStart_keeps (p := State.wires) (fun _ _ => rfl) b s
  rcases settleTurn_steady h with ⟨e, _⟩ | ⟨_, _, e⟩ <;> rw [e]
  · exact hd
  · exact hd

theorem settleTurn_bview {s : State} {b c : Fin 7} (h : s.Steady b) (hc : b ≠ c) :
    (settleTurn b s).bview c = s.bview c := by
  rcases settleTurn_steady h with ⟨e, _⟩ | ⟨_, _, e⟩ <;> rw [e]
  · exact dutyStart_bview b c s
  · rw [onBreaker_bview _ hc, onDrive_bview _ _ _ _ (trip_inj b c hc) (trip_ne_close b c)]
    exact dutyStart_bview b c s

theorem settleTurn_own {s : State} {b : Fin 7} (h : s.Steady b) : (settleTurn b s).Steady b := by
  rcases settleTurn_steady h with ⟨e, _⟩ | ⟨_, _, e⟩
  · rw [e]
    exact Steady_of_bview (dutyStart_bview b b s) h
  · have ho : ((settleTurn b s).breaker b).op = .none := by rw [e, breaker_onBreaker]
    exact ⟨fun hn => absurd ho hn, by simp [Breaker.failedEnd, ho]⟩

theorem settleTurn_test {s : State} {b : Fin 7} (h : s.Steady b) (k : Fin 6) :
    (settleTurn b s).drive (testChannel k) = s.drive (testChannel k) := by
  rcases settleTurn_steady h with ⟨e, _⟩ | ⟨_, _, e⟩ <;> rw [e]
  · exact dutyStart_drive b s _
  · rw [onBreaker_drive, drive_onDrive_ne _ (trip_ne_test b k)]
    exact dutyStart_drive b s _

theorem dutyStart_programme (b : Fin 7) (s : State) : (dutyStart b s).cb.programme = s.cb.programme := by
  unfold dutyStart dutyStep
  dsimp only
  (repeat' split) <;> rfl

theorem settleTurn_programme {s : State} {b : Fin 7} (h : s.Steady b) :
    (settleTurn b s).cb.programme = s.cb.programme := by
  rcases settleTurn_steady h with ⟨e, _⟩ | ⟨_, _, e⟩ <;> rw [e]
  · exact dutyStart_programme b s
  · exact dutyStart_programme b s

theorem dutyStart_counters (b : Fin 7) (s : State) : (dutyStart b s).cb.counters = s.cb.counters := by
  unfold dutyStart dutyStep
  dsimp only
  (repeat' split) <;> rfl

theorem settleTurn_counters {s : State} {b : Fin 7} (h : s.Steady b) :
    (settleTurn b s).cb.counters = s.cb.counters := by
  rcases settleTurn_steady h with ⟨e, _⟩ | ⟨_, _, e⟩ <;> rw [e]
  · exact dutyStart_counters b s
  · exact dutyStart_counters b s

theorem dutyStart_duty {b c : Fin 7} (s : State) (h : c ≠ b ∨ s.wires.tripStarted[c] = false) :
    (dutyStart c s).cb.duty[b] = s.cb.duty[b] := by
  unfold dutyStart dutyStep
  dsimp only
  split
  · rename_i hs
    split
    · rcases h with h | h
      · have hv : c.val ≠ b.val := fun e => h (Fin.ext e)
        simp [updAt, hv]
      · rw [h] at hs; cases hs
    · rfl
  · rfl

theorem settleTurn_duty {s : State} {b c : Fin 7} (hs : s.Steady c) (h : c ≠ b ∨ s.wires.tripStarted[c] = false) :
    (settleTurn c s).cb.duty[b] = s.cb.duty[b] := by
  rcases settleTurn_steady hs with ⟨e, _⟩ | ⟨_, _, e⟩ <;> rw [e]
  · exact dutyStart_duty s h
  · exact dutyStart_duty s h

/-- Every breaker is steady, as settling begins and after each of its turns. -/
def State.AllSteady (s : State) : Prop := ∀ b, s.Steady b

theorem settleTurn_all {s : State} (h : s.AllSteady) (b : Fin 7) : (settleTurn b s).AllSteady := by
  intro c
  by_cases hc : b = c
  · exact hc ▸ settleTurn_own (h b)
  · exact Steady_of_bview (settleTurn_bview (h b) hc) (h c)

/-- A reading that no turn of a steady breaker changes. -/
theorem settleTurns_keeps {β : Type} (p : State → β)
    (h : ∀ (b : Fin 7) (s : State), s.AllSteady → p (settleTurn b s) = p s) (s : State) (hs : s.AllSteady) :
    p (forAll 7 settleTurn s) = p s := by
  have := forAll_inv (f := settleTurn) (fun x => x.AllSteady ∧ p x = p s)
    (fun b x hx => ⟨settleTurn_all hx.1 b, (h b x hx.1).trans hx.2⟩) s ⟨hs, rfl⟩
  exact this.2

/-- The duty current of a breaker whose trip has not started. -/
theorem settleTurns_duty (s : State) (hs : s.AllSteady) (b : Fin 7) (h : s.wires.tripStarted[b] = false) :
    (forAll 7 settleTurn s).cb.duty[b] = s.cb.duty[b] := by
  have := forAll_inv (f := settleTurn)
    (fun x => x.AllSteady ∧ x.wires.tripStarted[b] = false ∧ x.cb.duty[b] = s.cb.duty[b])
    (fun c x hx => ⟨settleTurn_all hx.1 c, by rw [settleTurn_wires (hx.1 c)]; exact hx.2.1, by
      refine (settleTurn_duty (hx.1 c) ?_).trans hx.2.2
      by_cases e : c = b
      · exact .inr (e ▸ hx.2.1)
      · exact .inl e⟩) s ⟨hs, h, rfl⟩
  exact this.2.2

/-- One breaker after all have settled. -/
theorem settleTurns_breaker (s : State) (hs : s.AllSteady) (b : Fin 7) :
    ((forAll 7 settleTurn s).breaker b).tripTaken = (s.breaker b).tripTaken ∧
    (¬ ((s.breaker b).op ≠ .none ∧ (s.breaker b).op.target = some (s.breaker b).position) →
      (forAll 7 settleTurn s).bview b = s.bview b) := by
  obtain ⟨l1, l2, h1, h2, he⟩ := forAll_split b
  have hb := foldl_inv (f := settleTurn) (fun x => x.AllSteady ∧ x.bview b = s.bview b) (l := l1)
    (fun i hi x hx => ⟨settleTurn_all hx.1 i,
      (settleTurn_bview (hx.1 i) (fun (e : i = b) => h1 (e ▸ hi))).trans hx.2⟩) s ⟨hs, rfl⟩
  generalize hy : l1.foldl (fun s i => settleTurn i s) s = y at hb
  have hz := foldl_inv (f := settleTurn) (fun x => x.AllSteady ∧ x.bview b = (settleTurn b y).bview b) (l := l2)
    (fun i hi x hx => ⟨settleTurn_all hx.1 i,
      (settleTurn_bview (hx.1 i) (fun (e : i = b) => h2 (e ▸ hi))).trans hx.2⟩) (settleTurn b y)
    ⟨settleTurn_all hb.1 b, rfl⟩
  rw [he, hy]
  have hyb := (bview_eq.mp hb.2).1
  have hzb := (bview_eq.mp hz.2).1
  rcases settleTurn_steady (hb.1 b) with ⟨e, hn⟩ | ⟨h3, h4, e⟩
  · have : (settleTurn b y).bview b = s.bview b := by
      rw [e, dutyStart_bview, hb.2]
    exact ⟨by rw [hzb, (bview_eq.mp this).1], fun _ => hz.2.trans this⟩
  · refine ⟨?_, fun hn => absurd ⟨?_, ?_⟩ hn⟩
    · rw [hzb, e, breaker_onBreaker]
      show ((dutyStart b y).breaker b).tripTaken = _
      rw [dutyStart_breaker, hyb]
    · rw [← hyb, h3]; decide
    · rw [← hyb, h3, h4]; rfl

theorem markMoved_turns (s : State) (b : Fin 7) :
    (∃ m, (forAll 7 markMoved s).breaker b = { s.breaker b with moved := m }) ∧
    (((s.breaker b).op ≠ .none → (s.breaker b).position ≠ .unknown → (s.breaker b).moved = true) →
      (forAll 7 markMoved s).breaker b = s.breaker b) := by
  obtain ⟨y, h, h'⟩ := forAll_view (f := markMoved) b (fun x => x.breaker b)
    (fun i hi x => breaker_onBreaker_ne x hi _) s
  have h2 : (markMoved b y).breaker b = _ := breaker_onBreaker y b _
  rw [h', h2]
  constructor
  · exact ⟨_, by rw [h]⟩
  · intro hm
    rw [h]
    cases hv : (s.breaker b).moved with
    | true => rw [Bool.true_or, ← hv]
    | false =>
      have : ((s.breaker b).op != .none && (s.breaker b).op.target != some (s.breaker b).position &&
          (s.breaker b).position != .unknown) = false := by
        by_cases ho : (s.breaker b).op = .none
        · simp [ho]
        · by_cases hp : (s.breaker b).position = .unknown
          · simp [hp]
          · rw [hm ho hp] at hv; cases hv
      rw [this, Bool.or_false, ← hv]

theorem markMoved_turns_drives (s : State) : (forAll 7 markMoved s).bdu.drives = s.bdu.drives :=
  forAll_keeps (f := markMoved) (fun x => x.bdu.drives) (fun _ _ => rfl) s

/-! ## Sequences react -/

theorem onSeq_drive (s : State) (k : Fin 6) (f : Seq → Seq) (c : Fin 20) : (s.onSeq k f).drive c = s.drive c := rfl

section

variable (k : Fin 6) (hrel : ∀ s, p (releaseTest k s) = p s) (hseq : ∀ s f, p (s.onSeq k f) = p s)
  (hem : ∀ b m s, p (emit b m s) = p s) (hfree : UnseenFree p)

include hrel hseq hem

theorem lockOut_reads (c : Cause) (s : State) : p (lockOut k c s) = p s := by
  unfold lockOut emitSeq
  dsimp only
  split <;> simp only [hem, hseq, hrel]

theorem attemptOrLockOut_reads (s : State) : p (attemptOrLockOut k s) = p s := by
  unfold attemptOrLockOut nextAttempt emitSeq
  dsimp only
  split
  · simp only [hem, hseq]
  · exact lockOut_reads k hrel hseq hem _ s

theorem closeOutcome_reads (o : CloseOutcome) (s : State) : p (closeOutcome k o s) = p s := by
  unfold closeOutcome
  split
  · exact hseq _ _
  · exact lockOut_reads k hrel hseq hem _ s
  · exact attemptOrLockOut_reads k hrel hseq hem s

omit hem in
theorem openedByCommand_reads (s : State) : p (openedByCommand k s) = p s := by
  unfold openedByCommand enterIdle
  dsimp only
  (repeat' split) <;> simp only [hseq, hrel]

omit hrel in
theorem applySeqCommand_reads (c : SeqCommand) (s : State) : p (applySeqCommand k c s) = p s := by
  unfold applySeqCommand enterPrecheck enterIdle emitSeq
  dsimp only
  (repeat' split) <;> simp only [hem, hseq]

include hfree

theorem noticeWork_reads (d : Bool) (s : State) : p ((noticeWork d k s).getD s) = p s := by
  unfold noticeWork
  dsimp only
  split
  · split
    · simp only [Option.getD_some]
      split
      · rw [lockOut_reads k hrel hseq hem, hfree]
      · unfold interruptTest
        rw [hseq, hrel, hfree]
    · split
      · exact lockOut_reads k hrel hseq hem _ s
      · split
        · unfold interruptTest
          simp only [Option.getD_some, hseq, hrel]
        · split <;> simp only [Option.getD_some, Option.getD_none, hseq]
  · cases s.wires.outcome[k] with
    | none => rfl
    | some o => exact closeOutcome_reads k hrel hseq hem o s
  · rfl

/-- A reading that the reactions of one sequence do not change. -/
theorem rclReact_reads (s : State) : p (rclReact k s) = p s := by
  unfold rclReact reach
  split
  · exact openedByCommand_reads k hrel hseq s
  · split
    · exact lockOut_reads k hrel hseq hem _ s
    · split
      · exact applySeqCommand_reads k hseq hem _ s
      · split
        · exact attemptOrLockOut_reads k hrel hseq hem s
        · exact noticeWork_reads k hrel hseq hem hfree _ s

end

theorem releaseTest_bview (k : Fin 6) (b : Fin 7) (s : State) : (releaseTest k s).bview b = s.bview b :=
  onDrive_bview _ _ _ _ (trip_ne_test b k).symm (close_ne_test b k).symm

theorem rclReact_bview (k : Fin 6) (b : Fin 7) (s : State) : (rclReact k s).bview b = s.bview b :=
  rclReact_reads (p := fun x => x.bview b) k (releaseTest_bview k b) (fun _ _ => rfl) (fun _ _ _ => rfl)
    (fun _ _ => rfl) s

theorem rclReact_still (k : Fin 6) (s : State) : (rclReact k s).wires.still = s.wires.still :=
  rclReact_reads (p := fun x => x.wires.still) k (fun _ => rfl) (fun _ _ => rfl) (fun _ _ _ => rfl) (fun _ _ => rfl) s

theorem rclReact_outcome (k : Fin 6) (s : State) : (rclReact k s).wires.outcome = s.wires.outcome :=
  rclReact_reads (p := fun x => x.wires.outcome) k (fun _ => rfl) (fun _ _ => rfl) (fun _ _ _ => rfl)
    (fun _ _ => rfl) s

theorem rclReact_seq {j k : Fin 6} (h : j ≠ k) (s : State) : (rclReact j s).seq k = s.seq k :=
  rclReact_reads (p := fun x => x.seq k) j (fun _ => rfl) (fun s f => seq_onSeq_ne s h f) (fun _ _ _ => rfl)
    (fun _ _ => rfl) s

theorem rclReact_test {j k : Fin 6} (h : j ≠ k) (s : State) :
    (rclReact j s).drive (testChannel k) = s.drive (testChannel k) :=
  rclReact_reads (p := fun x => x.drive (testChannel k)) j (fun s => drive_onDrive_ne s (test_inj j k h) _)
    (fun _ _ => rfl) (fun _ _ _ => rfl) (fun _ _ => rfl) s

/-- At most one record, and the contactor released or left. -/
theorem lockOut_grown (k : Fin 6) (c : Cause) (s : State) : Grown 1 s (lockOut k c s) := by
  refine grown_emit (b := .rcl) (m := ⟨.feeder, k.val, .lockout, 2, some c.code⟩) ?_ (by simp) (Nat.le_refl _)
  unfold lockOut
  dsimp only
  split <;> rfl

theorem attemptOrLockOut_grown (k : Fin 6) (s : State) : Grown 1 s (attemptOrLockOut k s) := by
  unfold attemptOrLockOut
  split
  · exact grown_emit (b := .rcl) (m := ⟨.feeder, k.val, .deadTimeStart, 1, some ((s.seq k).attempts + 1 : Nat)⟩) rfl
      (by simp) (Nat.le_refl _)
  · exact lockOut_grown k _ s

theorem closeOutcome_grown (k : Fin 6) (o : CloseOutcome) (s : State) : Grown 1 s (closeOutcome k o s) := by
  unfold closeOutcome
  split
  · exact .of_eq rfl
  · exact lockOut_grown k _ s
  · exact attemptOrLockOut_grown k s

theorem noticeWork_grown (d : Bool) (k : Fin 6) (s : State) : Grown 1 s ((noticeWork d k s).getD s) := by
  unfold noticeWork
  dsimp only
  split
  · split
    · simp only [Option.getD_some]
      split
      · obtain ⟨n, h⟩ := lockOut_grown k .testEnded { s with free := s.free + 1 }
        exact ⟨n, h⟩
      · exact .of_eq rfl
    · split
      · exact lockOut_grown k _ s
      · split
        · exact .of_eq rfl
        · split <;> exact .of_eq rfl
  · cases s.wires.outcome[k] with
    | none => exact .of_eq rfl
    | some o => exact closeOutcome_grown k o s
  · exact .of_eq rfl

theorem applySeqCommand_grown (k : Fin 6) (c : SeqCommand) (s : State) : Grown 1 s (applySeqCommand k c s) := by
  unfold applySeqCommand
  split
  · dsimp only
    split
    · exact grown_emit (b := .rcl) (m := ⟨.feeder, k.val, .lockoutReset, 1, some 2⟩) rfl (by simp) (Nat.le_refl _)
    · exact .of_eq rfl
  · exact grown_emit (b := .rcl) (m := ⟨.feeder, k.val, .lockoutReset, 1, some 1⟩) rfl (by simp) (Nat.le_refl _)

theorem rclReact_grown (k : Fin 6) (s : State) : Grown 1 s (rclReact k s) := by
  unfold rclReact reach
  split
  · refine .of_eq ?_
    unfold openedByCommand
    dsimp only
    (repeat' split) <;> rfl
  · split
    · exact lockOut_grown k _ s
    · split
      · exact applySeqCommand_grown k _ s
      · split
        · exact attemptOrLockOut_grown k s
        · exact noticeWork_grown _ k s

/-- The test contactor of a feeder is as it was, or released. -/
def Released (k : Fin 6) (s t : State) : Prop :=
  t.drive (testChannel k) = s.drive (testChannel k) ∨ t.drive (testChannel k) = (s.drive (testChannel k)).release

theorem releaseTest_released (k : Fin 6) (s : State) :
    (releaseTest k s).drive (testChannel k) = (s.drive (testChannel k)).release := drive_onDrive _ _ _

theorem lockOut_released (k : Fin 6) (c : Cause) (s : State) : Released k s (lockOut k c s) := by
  unfold lockOut
  dsimp only
  split
  · exact .inr (releaseTest_released k s)
  · exact .inl rfl

theorem attemptOrLockOut_released (k : Fin 6) (s : State) : Released k s (attemptOrLockOut k s) := by
  unfold attemptOrLockOut
  split
  · exact .inl rfl
  · exact lockOut_released k _ s

theorem closeOutcome_released (k : Fin 6) (o : CloseOutcome) (s : State) : Released k s (closeOutcome k o s) := by
  unfold closeOutcome
  split
  · exact .inl rfl
  · exact lockOut_released k _ s
  · exact attemptOrLockOut_released k s

theorem noticeWork_released (d : Bool) (k : Fin 6) (s : State) : Released k s ((noticeWork d k s).getD s) := by
  have hi : ∀ x : State, Released k x (interruptTest k x) := fun x => .inr (releaseTest_released k x)
  unfold noticeWork
  dsimp only
  split
  · split
    · simp only [Option.getD_some]
      split
      · exact lockOut_released k _ { s with free := s.free + 1 }
      · exact hi { s with free := s.free + 1 }
    · split
      · exact lockOut_released k _ s
      · split
        · exact hi s
        · split <;> exact .inl rfl
  · cases s.wires.outcome[k] with
    | none => exact .inl rfl
    | some o => exact closeOutcome_released k o s
  · exact .inl rfl

theorem rclReact_released (k : Fin 6) (s : State) : Released k s (rclReact k s) := by
  unfold rclReact reach
  split
  · unfold openedByCommand
    dsimp only
    split
    · exact .inl rfl
    · split
      · exact .inr (releaseTest_released k s)
      · exact .inl rfl
  · split
    · exact lockOut_released k _ s
    · split
      · refine .inl ?_
        unfold applySeqCommand
        dsimp only
        (repeat' split) <;> rfl
      · split
        · exact attemptOrLockOut_released k s
        · exact noticeWork_released _ k s

theorem rclReacts_released (s : State) (k : Fin 6) : Released k s (forAll 6 rclReact s) := by
  obtain ⟨y, h, h'⟩ := forAll_view (f := rclReact) k (fun x => x.drive (testChannel k)) (fun i hi x => rclReact_test hi x) s
  unfold Released
  rw [h', ← h]
  exact rclReact_released k y

theorem rclReacts_seq (s : State) (k : Fin 6) : ∃ y : State, y.seq k = s.seq k ∧ y.wires.still = s.wires.still ∧
    y.wires.outcome = s.wires.outcome ∧ y.su = s.su ∧ y.straps = s.straps ∧
      (forAll 6 rclReact s).seq k = (rclReact k y).seq k := by
  obtain ⟨l1, l2, h1, h2, he⟩ := forAll_split k
  have hb := foldl_inv (f := rclReact) (fun x => x.seq k = s.seq k ∧ x.wires.still = s.wires.still ∧
    x.wires.outcome = s.wires.outcome ∧ x.su = s.su ∧ x.straps = s.straps) (l := l1)
    (fun i hi x hx => ⟨(rclReact_seq (fun (e : i = k) => h1 (e ▸ hi)) x).trans hx.1,
      (rclReact_still i x).trans hx.2.1, (rclReact_outcome i x).trans hx.2.2.1,
      (rclReact_keeps (p := State.su) (fun _ _ => rfl) (fun _ _ => rfl) (fun _ _ => rfl) (fun _ _ => rfl) i x).trans
        hx.2.2.2.1,
      (rclReact_keeps (p := State.straps) (fun _ _ => rfl) (fun _ _ => rfl) (fun _ _ => rfl) (fun _ _ => rfl) i x).trans
        hx.2.2.2.2⟩) s ⟨rfl, rfl, rfl, rfl, rfl⟩
  refine ⟨_, hb.1, hb.2.1, hb.2.2.1, hb.2.2.2.1, hb.2.2.2.2, ?_⟩
  rw [he]
  exact foldl_inv (f := rclReact) (fun x => x.seq k = _) (l := l2)
    (fun i hi x hx => (rclReact_seq (fun (e : i = k) => h2 (e ▸ hi)) x).trans hx) _ rfl

/-- A reclose start in IDLE or RECLAIM: the next attempt, or LOCKOUT when the attempts are used up (R139). -/
theorem rclReact_start {k : Fin 6} {s : State} (h1 : s.wires.commandOpening[k] = false)
    (h2 : s.wires.fallbackNotice = false) (h3 : s.wires.seqCommand = none) (h4 : s.wires.starts[k] = true)
    (h5 : (s.seq k).state = .idle ∨ (s.seq k).state = .reclaim) :
    (rclReact k s).seq k = if (s.seq k).attempts < (s.recloseRec k).attempts then
        { s.seq k with state := .deadTime, phase := .none, timer := 0, attempts := (s.seq k).attempts + 1 }
      else { s.seq k with state := .lockout, phase := .none, timer := 0, reason := .attemptsUsed } := by
  have h6 : (s.seq k).state.takesStart = true := by rcases h5 with h | h <;> rw [h] <;> rfl
  have h7 : (s.seq k).state ≠ .lineTest := by rcases h5 with h | h <;> rw [h] <;> decide
  have h8 : rclReact k s = attemptOrLockOut k s := by
    unfold rclReact reach
    simp only [h1, h2, seqCommandFor, h3, h4, h6, Bool.false_eq_true, if_false, Bool.false_and, Bool.true_and, if_true]
  rw [h8]
  unfold attemptOrLockOut
  split
  · exact seq_onSeq _ _ _
  · unfold lockOut
    rw [if_neg h7]
    exact seq_onSeq _ _ _

/-- A sequence without a notice. -/
theorem rclReact_still_none {k : Fin 6} {s : State} (h1 : s.wires.commandOpening[k] = false)
    (h2 : s.wires.fallbackNotice = false) (h3 : s.wires.seqCommand = none) (h4 : s.wires.starts[k] = false)
    (h5 : s.wires.rowNotice[k] = false) (h6 : s.wires.testReleased[k] = false) (h7 : s.wires.testHeld[k] = false)
    (h8 : s.wires.outcome[k] = none) : rclReact k s = s := by
  have hn : noticeWork false k s = none := by
    unfold noticeWork
    dsimp only
    split <;> simp [h5, h6, h7, h8]
  simp [rclReact, reach, h1, h2, seqCommandFor, h3, h4, hn]

/-! ## The trigger and the queue -/

theorem takeTrigger_grown (src : TrigSource) (s : State) : Grown 1 s (takeTrigger src s) := by
  unfold takeTrigger
  (repeat' split) <;> first
    | exact .of_eq rfl
    | exact grown_emit (b := .eru) (m := ⟨.recorder, 0, .recordMissed, 2, none⟩) rfl (by simp) (Nat.le_refl _)

theorem triggerStep_grown (s : State) : Grown 1 s (triggerStep s) := by
  unfold triggerStep
  split
  · exact .of_eq rfl
  · exact takeTrigger_grown _ s

/-- A trigger changes the buffers alone of the recorder. -/
theorem triggerStep_eru (s : State) : (triggerStep s).eru = { s.eru with buffers := (triggerStep s).eru.buffers } := by
  unfold triggerStep takeTrigger
  (repeat' split) <;> rfl

/-- The buffers after a trigger of the matrix alone, or none (R191). -/
theorem triggerStep_buffers (s : State) (h : s.wires.commandTrigger = false) : (triggerStep s).eru.buffers =
    if s.wires.matrixTrigger = false then s.eru.buffers
    else if s.eru.buffers[0].state = .capture then s.eru.buffers.set 0 (s.eru.buffers[0].trigger .matrix s.scu.clock)
    else if s.eru.buffers[1].state = .capture then s.eru.buffers.set 1 (s.eru.buffers[1].trigger .matrix s.scu.clock)
    else s.eru.buffers := by
  unfold triggerStep
  cases hm : s.wires.matrixTrigger
  · rw [h]
    rfl
  · rw [h]
    show (takeTrigger .matrix s).eru.buffers = _
    unfold takeTrigger
    (repeat' split) <;> first | rfl | contradiction

theorem triggerStep_freeze (s : State) : (triggerStep s).wires.freezeNext = s.wires.freezeNext := by
  unfold triggerStep takeTrigger
  (repeat' split) <;> rfl

theorem stamped_mem {n : Nat} {now : Clock} {ms : List EventMsg} {m : EventMsg} (h : m ∈ ms) :
    ∃ x ∈ stamped n now ms, x.msg = m ∧ x.time = now := by
  induction ms generalizing n with
  | nil => cases h
  | cons a ms ih =>
    rcases List.mem_cons.mp h with rfl | h
    · exact ⟨_, List.mem_cons_self .., rfl, rfl⟩
    · obtain ⟨x, hx, e⟩ := ih (n := (n + 1) % 65536) h
      exact ⟨x, List.mem_cons_of_mem _ hx, e⟩

theorem Logged.mem {ms : List EventMsg} {s t : State} (h : Logged ms s t) {m : EventMsg} (hm : m ∈ ms) :
    ∃ x ∈ t.eru.queue, x.msg = m ∧ x.time = s.scu.clock := by
  obtain ⟨all, hall, ht⟩ := h
  obtain ⟨x, hx, e⟩ := stamped_mem (n := s.eru.next) (now := s.scu.clock)
    (show m ∈ all from (List.mem_filter.mp (hall ▸ hm)).1)
  refine ⟨x, ?_, e⟩
  rw [ht]
  exact List.mem_append.mpr (.inr hx)

theorem Logged.queue {ms : List EventMsg} {s t : State} (h : Logged ms s t) :
    ∃ more, t.eru.queue = s.eru.queue ++ more := by
  obtain ⟨all, _, ht⟩ := h
  rw [ht]
  exact ⟨_, rfl⟩

theorem Logged.blocks {ms : List EventMsg} {s t : State} (h : Logged ms s t) :
    t.straps = s.straps ∧ t.timer = s.timer ∧ t.stamp = s.stamp ∧ t.prevStamp = s.prevStamp ∧ t.fresh = s.fresh ∧
    t.sbi = s.sbi ∧ t.scu = s.scu ∧ t.mu = s.mu ∧ t.fpu = s.fpu ∧ t.su = s.su ∧ t.bdu = s.bdu ∧ t.rcl = s.rcl ∧
    t.rcu = s.rcu ∧ t.eru = { s.eru with queue := t.eru.queue, next := t.eru.next } ∧
    t.cb = { s.cb with counters := t.cb.counters, frozen := t.cb.frozen } ∧ t.wires = s.wires ∧ t.pending = s.pending := by
  obtain ⟨all, _, ht⟩ := h
  rw [ht]
  exact ⟨rfl, rfl, rfl, rfl, rfl, rfl, rfl, rfl, rfl, rfl, rfl, rfl, rfl, rfl, rfl, rfl, rfl⟩

/-! ## After the trip matrix -/

/-- What follows the trip matrix in the work of a single command. -/
def afterRows (u : State) : State :=
  flush (triggerStep (forAll 6 rclReact (forAll 7 markMoved (forAll 7 settleTurn u))))

theorem settle_afterRows (s : State) : settle s = afterRows (applyRows s) := rfl

/-- What breakers, sequences, recorder and queue make of a state in which every breaker is steady. -/
structure After (u t : State) : Prop where
  blocks : t.straps = u.straps ∧ t.timer = u.timer ∧ t.stamp = u.stamp ∧ t.prevStamp = u.prevStamp ∧
    t.fresh = u.fresh ∧ t.sbi = u.sbi ∧ t.scu = u.scu ∧ t.mu = u.mu ∧ t.fpu = u.fpu ∧ t.su = u.su ∧ t.rcu = u.rcu ∧
    t.pending = u.pending
  recorder : t.eru.programme = u.eru.programme ∧ t.eru.heldCount = u.eru.heldCount ∧ t.eru.stopped = u.eru.stopped
  counters : t.cb.programme = u.cb.programme
  duty : ∀ b : Fin 7, u.wires.tripStarted[b] = false → t.cb.duty[b] = u.cb.duty[b]
  queue : ∃ more, t.eru.queue = u.eru.queue ++ more
  taken : ∀ b : Fin 7, (t.breaker b).tripTaken = (u.breaker b).tripTaken
  breaker : ∀ b : Fin 7, ¬ ((u.breaker b).op ≠ .none ∧ (u.breaker b).op.target = some (u.breaker b).position) →
    (∃ m, t.breaker b = { u.breaker b with moved := m }) ∧
    (((u.breaker b).op ≠ .none → (u.breaker b).position ≠ .unknown → (u.breaker b).moved = true) →
      t.breaker b = u.breaker b) ∧
    t.drive (tripChannel b) = u.drive (tripChannel b) ∧ t.drive (closeChannel b) = u.drive (closeChannel b)
  contactor : ∀ k : Fin 6, Released k u t
  sequence : ∀ k : Fin 6, ∃ y : State, y.seq k = u.seq k ∧ y.wires.still = u.wires.still ∧
    y.wires.outcome = u.wires.outcome ∧ y.su = u.su ∧ y.straps = u.straps ∧ t.seq k = (rclReact k y).seq k
  trigger : u.wires.commandTrigger = false → t.eru.buffers =
    if u.wires.matrixTrigger = false then u.eru.buffers
    else if u.eru.buffers[0].state = .capture then u.eru.buffers.set 0 (u.eru.buffers[0].trigger .matrix u.scu.clock)
    else if u.eru.buffers[1].state = .capture then u.eru.buffers.set 1 (u.eru.buffers[1].trigger .matrix u.scu.clock)
    else u.eru.buffers
  logged : ∀ e ∈ u.wires.events, ∃ x ∈ t.eru.queue, x.msg = e.2 ∧ x.time = u.scu.clock

theorem still_fields {v w : Wires} (h : v.still = w.still) :
    v.rows = w.rows ∧ v.matrixTrigger = w.matrixTrigger ∧ v.commandTrigger = w.commandTrigger ∧ v.starts = w.starts ∧
    v.rowNotice = w.rowNotice ∧ v.commandOpening = w.commandOpening ∧ v.seqCommand = w.seqCommand ∧
    v.fallbackNotice = w.fallbackNotice ∧ v.testHeld = w.testHeld ∧ v.testReleased = w.testReleased ∧
    v.freezeNext = w.freezeNext := by
  simp only [Wires.still, Wires.mk.injEq] at h
  obtain ⟨-, h1, h2, h3, -, h4, h5, h6, h7, h8, -, h9, h10, -, -, h11⟩ := h
  exact ⟨h1, h2, h3, h4, h5, h6, h7, h8, h9, h10, h11⟩

theorem afterRows_after {u : State} (hs : u.AllSteady) (hroom : u.Roomy) (hst : u.eru.startDue = [])
    (hf : u.wires.freezeNext = false) (hn : u.wires.events.length ≤ 25)
    (hc : ∀ e ∈ u.wires.events, e.2.code ≠ .opened ∧ e.2.code ≠ .counterOverflow) : After u (afterRows u) := by
  unfold afterRows
  have a1 := settleTurns_breaker u hs
  have a2 : (forAll 7 settleTurn u).wires = u.wires := settleTurns_keeps _ (fun b s h => settleTurn_wires (h b)) u hs
  have a3 : (forAll 7 settleTurn u).cb.programme = u.cb.programme :=
    settleTurns_keeps (fun x => x.cb.programme) (fun b s h => settleTurn_programme (h b)) u hs
  have aD := settleTurns_duty u hs
  have a4 : (forAll 7 settleTurn u).cb.counters = u.cb.counters :=
    settleTurns_keeps (fun x => x.cb.counters) (fun b s h => settleTurn_counters (h b)) u hs
  have a5 : ∀ k, (forAll 7 settleTurn u).drive (testChannel k) = u.drive (testChannel k) := fun k =>
    settleTurns_keeps (fun x => x.drive (testChannel k)) (fun b s h => settleTurn_test (h b) k) u hs
  have a6 : ∀ {β : Type} (p : State → β), UnseenBdu p → UnseenCb p → UnseenWires p →
      p (forAll 7 settleTurn u) = p u := fun p h1 h2 h3 =>
    forAll_keeps p (fun b s => by
      unfold settleTurn
      rw [settleBreaker_keeps h1 h3, dutyStart_keeps h2]) u
  generalize forAll 7 settleTurn u = v at *
  have b1 := markMoved_turns v
  have b2 := markMoved_turns_drives v
  have b3 : ∀ {β : Type} (p : State → β), UnseenBdu p → p (forAll 7 markMoved v) = p v := fun p h =>
    forAll_keeps p (fun b s => markMoved_keeps h b s) v
  generalize forAll 7 markMoved v = w at *
  have c1 := rclReacts_released w
  have c2 := rclReacts_seq w
  have c3 : ∀ b, (forAll 6 rclReact w).bview b = w.bview b := fun b =>
    forAll_keeps (fun x => x.bview b) (fun k s => rclReact_bview k b s) w
  have c4 : (forAll 6 rclReact w).wires.still = w.wires.still :=
    forAll_keeps (fun x => x.wires.still) (fun k s => rclReact_still k s) w
  have c5 : Grown (6 * 1) w (forAll 6 rclReact w) := grown_forAll rclReact_grown w
  have c6 : ∀ {β : Type} (p : State → β), UnseenBdu p → UnseenRcl p → UnseenWires p → UnseenFree p →
      p (forAll 6 rclReact w) = p w := fun p h1 h2 h3 h4 =>
    forAll_keeps p (fun k s => rclReact_keeps h1 h2 h3 h4 k s) w
  generalize forAll 6 rclReact w = x at *
  have d1 := triggerStep_grown x
  have d2 := triggerStep_eru x
  have d3 := triggerStep_freeze x
  have d4 : ∀ {β : Type} (p : State → β), UnseenEru p → UnseenWires p → p (triggerStep x) = p x := fun p h1 h2 =>
    triggerStep_keeps h1 h2 x
  have d5 := triggerStep_buffers x
  generalize triggerStep x = y at *
  have hwx : x.wires.still = u.wires.still := by
    rw [c4, b3 State.wires (fun _ _ => rfl), a2]
  have hwf := still_fields hwx
  have heru : x.eru = u.eru := by
    rw [c6 State.eru (fun _ _ => rfl) (fun _ _ => rfl) (fun _ _ => rfl) (fun _ _ => rfl), b3 State.eru (fun _ _ => rfl),
      a6 State.eru (fun _ _ => rfl) (fun _ _ => rfl) (fun _ _ => rfl)]
  have hcbx : x.cb.programme = u.cb.programme ∧ x.cb.counters = u.cb.counters ∧
      ∀ b : Fin 7, u.wires.tripStarted[b] = false → x.cb.duty[b] = u.cb.duty[b] := by
    have h : x.cb = v.cb := by
      rw [c6 State.cb (fun _ _ => rfl) (fun _ _ => rfl) (fun _ _ => rfl) (fun _ _ => rfl), b3 State.cb (fun _ _ => rfl)]
    rw [h]
    exact ⟨a3, a4, aD⟩
  have hcy : y.cb = x.cb := d4 State.cb (fun _ _ => rfl) (fun _ _ => rfl)
  have hgrow : Grown (6 * 1 + 1) u y := by
    have h0 : w.wires = u.wires := by rw [b3 State.wires (fun _ _ => rfl), a2]
    obtain ⟨n, h1, h2, h3⟩ := c5.trans d1
    exact ⟨n, by rw [h1, h0], h2, h3⟩
  obtain ⟨new, g1, g2, g3⟩ := hgrow
  have hey : y.eru = { u.eru with buffers := y.eru.buffers } := by rw [d2, heru]
  obtain ⟨es', hint, hlog⟩ := flush_logged (s := y)
    ⟨by rw [hey]; exact hroom.queue, by rw [hcy, hcbx.2.1]; exact hroom.counters⟩ (by rw [hey]; exact hst)
    (by rw [d3, hwf.2.2.2.2.2.2.2.2.2.2]; exact hf) (by rw [g1, List.length_append]; omega)
    (by
      intro e he
      rw [g1] at he
      rcases List.mem_append.mp he with he | he
      · exact hc e he
      · exact g3 e he)
  obtain ⟨t1, t2, t3, t4, t5, t6, t7, t8, t9, t10, t11, t12, t13, t14, t15, -, t17⟩ := hlog.blocks
  have hkeep : ∀ {β : Type} (p : State → β), UnseenBdu p → UnseenCb p → UnseenWires p → UnseenRcl p → UnseenFree p →
      UnseenEru p → p y = p u := fun p h1 h2 h3 h4 h5 h6 => by
    rw [d4 p h6 h3, c6 p h1 h4 h3 h5, b3 p h1, a6 p h1 h2 h3]
  have hblocks : (y.straps, y.timer, y.stamp, y.prevStamp, y.fresh, y.sbi, y.scu, y.mu, y.fpu, y.su, y.rcu, y.pending) =
      (u.straps, u.timer, u.stamp, u.prevStamp, u.fresh, u.sbi, u.scu, u.mu, u.fpu, u.su, u.rcu, u.pending) :=
    hkeep (fun x => (x.straps, x.timer, x.stamp, x.prevStamp, x.fresh, x.sbi, x.scu, x.mu, x.fpu, x.su, x.rcu, x.pending))
      (fun _ _ => rfl) (fun _ _ => rfl) (fun _ _ => rfl) (fun _ _ => rfl) (fun _ _ => rfl) (fun _ _ => rfl)
  simp only [Prod.mk.injEq] at hblocks
  obtain ⟨p1, p2, p3, p4, p5, p6, p7, p8, p9, p10, p11, p12⟩ := hblocks
  have hbdu : (flush y).bdu = x.bdu := t11.trans (d4 State.bdu (fun _ _ => rfl) (fun _ _ => rfl))
  have hbreaker : ∀ b, (flush y).breaker b = w.breaker b := fun b => by
    rw [← (bview_eq.mp (c3 b)).1]
    unfold State.breaker
    rw [hbdu]
  have hdrive : ∀ c, (flush y).drive c = x.drive c := fun c => by
    unfold State.drive
    rw [hbdu]
  have hwv : ∀ c, w.drive c = v.drive c := fun c => by
    unfold State.drive
    rw [b2]
  refine ⟨⟨t1.trans p1, t2.trans p2, t3.trans p3, t4.trans p4, t5.trans p5, t6.trans p6, t7.trans p7, t8.trans p8,
    t9.trans p9, t10.trans p10, t13.trans p11, t17.trans p12⟩, ?_, ?_, ?_, ?_, ?_, ?_, ?_, ?_, ?_, ?_⟩
  · have hq : (clearWires y).eru = y.eru := rfl
    rw [hq, hey] at t14
    rw [t14]
    exact ⟨rfl, rfl, rfl⟩
  · rw [t15]
    show y.cb.programme = _
    rw [hcy, hcbx.1]
  · intro b hb
    rw [t15]
    show y.cb.duty[b] = _
    rw [hcy]
    exact hcbx.2.2 b hb
  · obtain ⟨more, hmore⟩ := hlog.queue
    exact ⟨more, hmore.trans (by show y.eru.queue ++ more = _; rw [hey])⟩
  · intro b
    obtain ⟨⟨m, hm⟩, _⟩ := b1 b
    rw [hbreaker, hm]
    exact (a1 b).1
  · intro b hb
    have hv := bview_eq.mp ((a1 b).2 hb)
    obtain ⟨⟨m, hm⟩, hid⟩ := b1 b
    rw [hv.1] at hm hid
    refine ⟨⟨m, by rw [hbreaker, hm]⟩, fun h => by rw [hbreaker, hid h], ?_, ?_⟩
    · rw [hdrive, (bview_eq.mp (c3 b)).2.1, hwv, hv.2.1]
    · rw [hdrive, (bview_eq.mp (c3 b)).2.2.1, hwv, hv.2.2.1]
  · intro k
    have h := c1 k
    unfold Released at h ⊢
    rw [hdrive, ← a5 k, ← hwv]
    exact h
  · intro k
    have hs' : w.seq k = u.seq k ∧ w.su = u.su ∧ w.straps = u.straps ∧ w.wires = u.wires := by
      refine ⟨?_, ?_, ?_, ?_⟩
      · rw [b3 (fun x => x.seq k) (fun _ _ => rfl), a6 (fun x => x.seq k) (fun _ _ => rfl) (fun _ _ => rfl) (fun _ _ => rfl)]
      · rw [b3 State.su (fun _ _ => rfl), a6 State.su (fun _ _ => rfl) (fun _ _ => rfl) (fun _ _ => rfl)]
      · rw [b3 State.straps (fun _ _ => rfl), a6 State.straps (fun _ _ => rfl) (fun _ _ => rfl) (fun _ _ => rfl)]
      · rw [b3 State.wires (fun _ _ => rfl), a2]
    obtain ⟨z, z1, z2, z3, z4, z5, z6⟩ := c2 k
    refine ⟨z, z1.trans hs'.1, by rw [z2, hs'.2.2.2], by rw [z3, hs'.2.2.2], z4.trans hs'.2.1, z5.trans hs'.2.2.1, ?_⟩
    rw [← z6]
    have hr : (flush y).rcl = x.rcl := t12.trans (d4 State.rcl (fun _ _ => rfl) (fun _ _ => rfl))
    unfold State.seq
    rw [hr]
  · intro h2
    have hscu : x.scu = u.scu := by
      rw [c6 State.scu (fun _ _ => rfl) (fun _ _ => rfl) (fun _ _ => rfl) (fun _ _ => rfl), b3 State.scu (fun _ _ => rfl),
        a6 State.scu (fun _ _ => rfl) (fun _ _ => rfl) (fun _ _ => rfl)]
    have h := d5 (hwf.2.2.1.trans h2)
    rw [heru, hscu, hwf.2.1] at h
    rw [t14]
    exact h
  · intro e he
    have hmem : e.2 ∈ es'.map Prod.snd :=
      List.mem_map.mpr ⟨e, hint.perm.mem_iff.mpr (by rw [g1]; exact List.mem_append.mpr (.inl he)), rfl⟩
    obtain ⟨r, hr, h1, h2⟩ := hlog.mem hmem
    refine ⟨r, hr, h1, h2.trans ?_⟩
    show y.scu.clock = _
    rw [p7]

/-! ## Rows raised -/

/-- What rows raised in one command do, and nothing more: `RowTaken` for any number of rows. -/
structure RowsTaken (rows : List RowRaise) (s t : State) : Prop where
  taken : ∀ b : Fin 7, (anyRow rows fun r => (appliedTrip s r).getLsbD b.val) = true → (t.breaker b).tripTaken = true
  begun : ∀ b : Fin 7, (anyRow rows fun r => (appliedTrip s r).getLsbD b.val) = true → s.tripReady b →
    t.TripBegun b ∧ t.drive (closeChannel b) = (s.drive (closeChannel b)).release
  logged : ∀ x ∈ rows, ∃ e ∈ t.eru.queue, e.msg = tripEvent s x ∧ e.time = s.scu.clock
  queue : ∃ more, t.eru.queue = s.eru.queue ++ more
  intertrip : ∀ k : Fin 6, (anyRow rows fun r => (s.matrixRow r).intertrip.getLsbD k.val) = true →
    (s.feederRec k).outPresent = true → (∀ w : Fin 16, w.val = (s.feederRec k).outWord → (s.feederRec k).outBit < 16 →
      t.sbi.commands[w].getLsbD (s.feederRec k).outBit = true) ∧ t.su.holds[k] = ⟨true, 0⟩
  commands : ∀ (w : Fin 16) (j : Nat),
    (∀ k : Fin 6, (anyRow rows fun r => (s.matrixRow r).intertrip.getLsbD k.val) = true →
      (s.feederRec k).outPresent = true → ¬ (w.val = (s.feederRec k).outWord ∧ j = (s.feederRec k).outBit)) →
    t.sbi.commands[w].getLsbD j = s.sbi.commands[w].getLsbD j
  holds : ∀ k : Fin 6, (anyRow rows fun r => (s.matrixRow r).intertrip.getLsbD k.val) = false ∨
    (s.feederRec k).outPresent = false → t.su.holds[k] = s.su.holds[k]
  phaseBack : (anyRow rows fun r => (s.matrixRow r).phaseBack) = true →
    (s.rcu.state = .softStart ∨ s.rcu.state = .regulating) →
    t.rcu.state = .phaseBack ∧ t.rcu.blockTimer = s.rect.tBlock ∧ t.rcu.integ = 0 ∧ t.rcu.alpha = s.rect.aBlock
  extended : (anyRow rows fun r => (s.matrixRow r).phaseBack) = true → s.rcu.state = .phaseBack →
    t.rcu = { s.rcu with blockTimer := s.rect.tBlock }
  noPhaseBack : (anyRow rows fun r => (s.matrixRow r).phaseBack) = false ∨ s.rcu.state = .blocked ∨
    s.rcu.state = .fixed → t.rcu = s.rcu
  record : t.eru.buffers =
    if (anyRow rows fun r => (s.matrixRow r).record) = false then s.eru.buffers
    else if s.eru.buffers[0].state = .capture then s.eru.buffers.set 0 (s.eru.buffers[0].trigger .matrix s.scu.clock)
    else if s.eru.buffers[1].state = .capture then s.eru.buffers.set 1 (s.eru.buffers[1].trigger .matrix s.scu.clock)
    else s.eru.buffers
  start : ∀ k : Fin 6, (anyRow rows fun r => (s.matrixRow r).reclose && rowFeeder r == some k) = true →
    ((s.seq k).state = .idle ∨ (s.seq k).state = .reclaim) →
    t.seq k = if (s.seq k).attempts < (s.recloseRec k).attempts then
        { s.seq k with state := .deadTime, phase := .none, timer := 0, attempts := (s.seq k).attempts + 1 }
      else { s.seq k with state := .lockout, phase := .none, timer := 0, reason := .attemptsUsed }
  straps : t.straps = s.straps
  times : t.timer = s.timer ∧ t.stamp = s.stamp ∧ t.prevStamp = s.prevStamp ∧ t.fresh = s.fresh
  bus : t.sbi = { s.sbi with commands := t.sbi.commands }
  service : t.scu = s.scu
  measurements : t.mu = s.mu
  protection : t.fpu = s.fpu
  settings : t.su = { s.su with holds := t.su.holds }
  rectifier : t.rcu.sync = s.rcu.sync ∧ t.rcu.uset = s.rcu.uset ∧ t.rcu.ovl = s.rcu.ovl ∧ t.rcu.ovp = s.rcu.ovp ∧
    t.rcu.chopper = s.rcu.chopper
  recorder : t.eru.programme = s.eru.programme ∧ t.eru.heldCount = s.eru.heldCount ∧ t.eru.stopped = s.eru.stopped
  counters : t.cb.programme = s.cb.programme
  duty : ∀ b : Fin 7, (anyRow rows fun r => (appliedTrip s r).getLsbD b.val) = false → t.cb.duty[b] = s.cb.duty[b]
  pending : t.pending = s.pending
  breakers : ∀ b : Fin 7, (anyRow rows fun r => (appliedTrip s r).getLsbD b.val) = false → t.breaker b = s.breaker b ∧
    t.drive (tripChannel b) = s.drive (tripChannel b) ∧ t.drive (closeChannel b) = s.drive (closeChannel b)
  contactors : ∀ k : Fin 6, t.drive (testChannel k) = s.drive (testChannel k) ∨
    t.drive (testChannel k) = (s.drive (testChannel k)).release
  sequences : ∀ k : Fin 6, (anyRow rows fun r => (appliedTrip s r).getLsbD k.val) = false →
    (anyRow rows fun r => rowFeeder r == some k) = false → t.seq k = s.seq k

theorem raisesInOrder_mem {rows : List RowRaise} {x : RowRaise} (h : x ∈ rows) : x ∈ raisesInOrder rows :=
  List.mem_flatMap.mpr ⟨x.row, List.mem_finRange _, List.mem_filter.mpr ⟨h, by simp⟩⟩

theorem raisesInOrder_length (rows : List RowRaise) : (raisesInOrder rows).length = rows.length := by
  have h : ∀ l : List RowRaise, (raisesInOrder l).length = ∑ r : Fin 40, (l.filter fun x => x.row == r).length := by
    intro l
    rw [raisesInOrder, List.length_flatMap, Fin.sum_univ_def]
  rw [h]
  induction rows with
  | nil => simp
  | cons x rows ih =>
    have hx : ∀ r : Fin 40, ((x :: rows).filter fun y => y.row == r).length =
        (if x.row = r then 1 else 0) + (rows.filter fun y => y.row == r).length := by
      intro r
      by_cases hr : x.row = r <;> simp [hr, Nat.add_comm]
    simp only [hx, Finset.sum_add_distrib, ih, Finset.sum_ite_eq, Finset.mem_univ, if_true, List.length_cons]
    omega

theorem anyRow_false {rows : List RowRaise} {f g : Fin 40 → Bool} (h : ∀ r, f r = true → g r = true)
    (hg : anyRow rows g = false) : anyRow rows f = false := by
  rw [anyRow, List.any_eq_false] at hg ⊢
  exact fun x hx hf => hg x hx (h _ hf)

/-- Every breaker is steady once the rows of a settled state are applied. -/
theorem rowsTaken_steady {s : State} (hs : s.Settled) : (rowsTaken s).AllSteady := by
  intro b
  obtain ⟨hno, hyes⟩ := rowsTaken_breaker s b
  cases hm : anyRow s.wires.rows fun r => (appliedTrip s r).getLsbD b.val with
  | false =>
    obtain ⟨h1, h2, _⟩ := hno hm
    exact ⟨fun ho ht => absurd (by rw [← h1]; exact ht) (hs.target b (by rw [← h1]; exact ho)),
      by rw [h1, h2]; exact hs.failed b⟩
  | true =>
    obtain ⟨x, hx, h1, h2, _⟩ := hyes hm
    obtain ⟨hx1, hx2, _⟩ := bview_eq.mp hx
    rcases tripRequest_cases b x with ⟨g1, g2, _, _⟩ | ⟨g1, _, g3, _, _, _⟩
    · rw [g1, hx1] at h1
      rw [g2, hx2] at h2
      refine ⟨fun ho ht => absurd ?_ (hs.target b ?_), ?_⟩
      · rw [h1] at ht; exact ht
      · rw [h1] at ho; exact ho
      · rw [h1, h2]; exact hs.failed b
    · refine ⟨fun _ _ => ⟨by rw [h1]; exact g1.op, by rw [h1]; exact g3⟩, ?_⟩
      rw [h1, h2]
      unfold Breaker.failedEnd
      rw [g1.channel]
      exact Bool.and_false _

/-- What raised rows do in a settled state with room in the queue. -/
theorem settle_rows {s : State} {rows : List RowRaise} {es : List (Block × EventMsg)}
    (hw : s.wires = { Wires.none with events := es, rows := rows }) (hs : s.Settled) (hroom : s.Roomy)
    (hst : s.eru.startDue = []) (hn : es.length + rows.length ≤ 17)
    (hc : ∀ e ∈ es, e.2.code ≠ .opened ∧ e.2.code ≠ .counterOverflow) :
    RowsTaken rows s (settle s) ∧ ∀ e ∈ es, ∃ x ∈ (settle s).eru.queue, x.msg = e.2 ∧ x.time = s.scu.clock := by
  rw [← raisesInOrder_length] at hn
  have hrows : s.wires.rows = rows := by rw [hw]
  have hsteady := rowsTaken_steady hs
  have hbr := rowsTaken_breaker s
  have hte := rowsTaken_test s
  have hout := rowsTaken_outcome s
  have hsbi := rowsTaken_sbi s
  have hsu := rowsTaken_su s
  have hrcu := rowsTaken_rcu s
  have hint := rowsTaken_intertrip s
  have hoth := rowsTaken_other s
  have hstart := rowsTaken_started s
  have hstill : (rowsTaken s).wires.still = Wires.none.still := by rw [rowsTaken_still, hw]; rfl
  have hgrow := rowsTaken_grown s
  have htold := applyRows_told s
  have hrest : ((rowsTaken s).straps, (rowsTaken s).timer, (rowsTaken s).stamp, (rowsTaken s).prevStamp,
      (rowsTaken s).fresh, (rowsTaken s).pending, (rowsTaken s).mu, (rowsTaken s).scu, (rowsTaken s).fpu,
      (rowsTaken s).rcl, (rowsTaken s).eru, (rowsTaken s).cb) =
      (s.straps, s.timer, s.stamp, s.prevStamp, s.fresh, s.pending, s.mu, s.scu, s.fpu, s.rcl, s.eru, s.cb) :=
    rowsTaken_same (p := fun x => (x.straps, x.timer, x.stamp, x.prevStamp, x.fresh, x.pending, x.mu, x.scu, x.fpu, x.rcl,
      x.eru, x.cb)) (fun _ _ => rfl) (fun _ _ => rfl) (fun _ _ => rfl) (fun _ _ => rfl) (fun _ _ => rfl) s
  simp only [Prod.mk.injEq] at hrest
  obtain ⟨r1, r2, r3, r4, r5, r6, rmu, rscu, rfpu, rrcl, reru, rcb⟩ := hrest
  rw [hrows] at hbr hout hrcu hint hgrow htold hoth hstart
  rw [settle_afterRows]
  generalize rowsTaken s = a at *
  generalize applyRows s = u at *
  have ubdu : u.bdu = a.bdu := by rw [htold]; rfl
  have useq : ∀ k, u.seq k = s.seq k := fun k => by
    unfold State.seq
    rw [htold, ← rrcl]
    rfl
  have ubr : ∀ b, u.breaker b = a.breaker b := fun b => by unfold State.breaker; rw [ubdu]
  have udr : ∀ c, u.drive c = a.drive c := fun c => by unfold State.drive; rw [ubdu]
  have ueru : u.eru = s.eru := by rw [htold, ← reru]; rfl
  have uscu : u.scu = s.scu := by rw [htold, ← rscu]; rfl
  have usu : u.su = a.su := by rw [htold]; rfl
  have ustraps : u.straps = s.straps := by rw [htold, ← r1]; rfl
  obtain ⟨f1, f2, f3, f4, f5, f6, f7, f8, f9, f10, f11⟩ := still_fields hstill
  obtain ⟨new, g1, g2, g3⟩ := hgrow
  have uev : u.wires.events = es ++ ((raisesInOrder rows).map fun x => (Block.su, tripEvent s x)) ++ new := by
    rw [htold]
    show a.wires.events = _
    rw [g1, hw]
  have uafter : After u (afterRows u) := by
    refine afterRows_after (fun b => ?_) ⟨?_, ?_⟩ ?_ ?_ ?_ ?_
    · obtain ⟨h1, h2⟩ := hsteady b
      exact ⟨by rw [ubr]; exact h1, by rw [ubr, udr]; exact h2⟩
    · rw [ueru]; exact hroom.queue
    · rw [htold]
      show ∀ n : Fin 16, a.cb.counters[n].value < 2 ^ 40
      rw [rcb]
      exact hroom.counters
    · rw [ueru]; exact hst
    · rw [htold]
      show a.wires.freezeNext = false
      rw [f11]
      rfl
    · rw [uev]
      simp only [List.length_append, List.length_map]
      omega
    · intro e he
      rw [uev] at he
      rcases List.mem_append.mp he with he | he
      · rcases List.mem_append.mp he with he | he
        · exact hc e he
        · obtain ⟨x, _, rfl⟩ := List.mem_map.mp he
          exact ⟨by simp [tripEvent], by simp [tripEvent]⟩
      · exact g3 e he
  have htarget : ∀ b, ¬ ((s.breaker b).op ≠ .none ∧ (s.breaker b).op.target = some (s.breaker b).position) := fun b h =>
    hs.target b h.1 h.2
  obtain ⟨q1, q2, q3, q4, q5, q6, q7, q8, q9, q10, q11, q12⟩ := uafter.blocks
  have usbi : u.sbi = a.sbi := by rw [htold]; rfl
  have urcu : u.rcu = a.rcu := by rw [htold]; rfl
  refine ⟨{
    taken := ?_, begun := ?_, logged := ?_
    queue := by
      obtain ⟨more, h⟩ := uafter.queue
      exact ⟨more, h.trans (by rw [ueru])⟩
    intertrip := ?_
    commands := by
      intro w j hk
      rw [q6, usbi]
      exact hoth.1 w j hk
    holds := by
      intro k hk
      rw [q10, usu]
      exact hoth.2 k hk
    phaseBack := ?_
    extended := by rw [q11, urcu]; exact hrcu.2.1
    noPhaseBack := by rw [q11, urcu]; exact hrcu.2.2.1
    record := ?_, start := ?_
    straps := q1.trans ustraps
    times := ⟨q2.trans (by rw [htold, ← r2]; rfl), q3.trans (by rw [htold, ← r3]; rfl),
      q4.trans (by rw [htold, ← r4]; rfl), q5.trans (by rw [htold, ← r5]; rfl)⟩
    bus := by rw [q6, usbi]; exact hsbi
    service := q7.trans uscu
    measurements := q8.trans (by rw [htold, ← rmu]; rfl)
    protection := q9.trans (by rw [htold, ← rfpu]; rfl)
    settings := by rw [q10, usu]; exact hsu
    rectifier := by rw [q11, urcu]; exact hrcu.2.2.2
    recorder := by
      obtain ⟨h1, h2, h3⟩ := uafter.recorder
      rw [ueru] at h1 h2 h3
      exact ⟨h1, h2, h3⟩
    counters := uafter.counters.trans (by rw [htold, ← rcb]; rfl)
    duty := by
      intro b hb
      refine (uafter.duty b ?_).trans (by rw [htold, ← rcb]; rfl)
      rw [htold]
      show a.wires.tripStarted[b] = false
      rw [hstart b hb, hw]
      simp [Wires.none]
    pending := q12.trans (by rw [htold, ← r6]; rfl)
    breakers := ?_, contactors := ?_, sequences := ?_ }, ?_⟩
  · intro b hm
    obtain ⟨x, _, h1, _⟩ := (hbr b).2 hm
    rw [uafter.taken b, ubr, h1]
    rcases tripRequest_cases b x with ⟨h, _⟩ | ⟨_, h, _⟩
    · rw [h]
    · exact h
  · intro b hm hr
    obtain ⟨x, hx, h1, h2, h3⟩ := (hbr b).2 hm
    obtain ⟨x1, x2, x3, x4, x5⟩ := bview_eq.mp hx
    rcases tripRequest_cases b x with ⟨_, _, _, h⟩ | ⟨hb, _, hmv, hp, _, hcl⟩
    · refine absurd (h ?_ ?_) ?_
      · have : x.isFitted b = s.isFitted b := by
          unfold State.isFitted
          rw [x4, x5]
        rw [this]
        exact hr.1
      · rw [x1]; exact hr.2.1
      · rw [x1]; exact hr.2.2
    · have hpos : (u.breaker b).position = (s.breaker b).position := by rw [ubr, h1, hp, x1]
      have hop : (u.breaker b).op = .tripping := by rw [ubr, h1]; exact hb.op
      have hnt : ¬ ((u.breaker b).op ≠ .none ∧ (u.breaker b).op.target = some (u.breaker b).position) := by
        rw [hpos, hop]
        rintro ⟨_, h⟩
        exact hr.2.2 (Option.some.inj h).symm
      obtain ⟨⟨m, hm'⟩, _, hd, hd2⟩ := uafter.breaker b hnt
      refine ⟨⟨?_, ?_, ?_, ?_⟩, by rw [hd2, udr, h3, hcl, x3]⟩
      · rw [hm']; exact hop
      · rw [hm']
        show (u.breaker b).count = 0
        rw [ubr, h1]; exact hb.count
      · rw [hd, udr, h2]; exact hb.channel
      · rw [hd, udr, h2]; exact hb.timer
  · intro x hx
    obtain ⟨e, he, h1, h2⟩ := uafter.logged (Block.su, tripEvent s x) (by
      rw [uev]
      refine List.mem_append.mpr (.inl (List.mem_append.mpr (.inr ?_)))
      exact List.mem_map.mpr ⟨x, raisesInOrder_mem hx, rfl⟩)
    exact ⟨e, he, h1, h2.trans (by rw [uscu])⟩
  · intro k hm hp
    have h := hint k hm hp
    rw [q6, q10, usbi, usu]
    exact ⟨h.bit, h.hold⟩
  · intro hm hstate
    rw [q11, urcu]
    exact hrcu.1 hm hstate
  · have h := uafter.trigger (by
      rw [htold]
      show a.wires.commandTrigger = false
      rw [f3]
      rfl)
    have hm : u.wires.matrixTrigger = anyRow rows fun r => (s.matrixRow r).record := by
      rw [htold]
      show (a.wires.matrixTrigger || _) = _
      rw [f2]
      exact Bool.false_or _
    rw [h, hm, ueru, uscu]
  · intro k hm h5
    obtain ⟨y, y1, y2, y3, y4, y5, y6⟩ := uafter.sequence k
    obtain ⟨e1, e2, e3, e4, e5, e6, e7, e8, e9, e10, e11⟩ := still_fields y2
    have hrec : y.recloseRec k = s.recloseRec k := by
      unfold State.recloseRec
      rw [y4, usu, hsu]
    rw [y6, rclReact_start (s := y) (k := k), y1, useq, hrec]
    · rw [e6, htold]
      show a.wires.commandOpening[k] = false
      rw [f6]
      simp [Wires.none]
    · rw [e8, htold]
      show a.wires.fallbackNotice = false
      rw [f8]
      rfl
    · rw [e7, htold]
      show a.wires.seqCommand = none
      rw [f7]
      rfl
    · rw [e4, htold]
      simp [hm]
    · rw [y1, useq]; exact h5
  · intro b hm
    obtain ⟨h1, h2, h3⟩ := (hbr b).1 hm
    have hub : u.breaker b = s.breaker b := (ubr b).trans h1
    obtain ⟨_, hid, hd1, hd2⟩ := uafter.breaker b (by rw [hub]; exact htarget b)
    refine ⟨?_, by rw [hd1, udr, h2], by rw [hd2, udr, h3]⟩
    rw [hid (by rw [hub]; exact hs.moved b), hub]
  · intro k
    have h := uafter.contactor k
    unfold Released at h
    rw [udr, hte] at h
    exact h
  · intro k hm hf
    obtain ⟨y, y1, y2, y3, y4, y5, y6⟩ := uafter.sequence k
    obtain ⟨e1, e2, e3, e4, e5, e6, e7, e8, e9, e10, e11⟩ := still_fields y2
    rw [y6, rclReact_still_none (s := y) (k := k), y1, useq]
    · rw [e6, htold]
      show a.wires.commandOpening[k] = false
      rw [f6]
      simp [Wires.none]
    · rw [e8, htold]
      show a.wires.fallbackNotice = false
      rw [f8]
      rfl
    · rw [e7, htold]
      show a.wires.seqCommand = none
      rw [f7]
      rfl
    · have h : (anyRow rows fun r => (s.matrixRow r).reclose && rowFeeder r == some k) = false :=
        anyRow_false (fun r h => (Bool.and_eq_true_iff.mp h).2) hf
      rw [e4, htold]
      simp [h, f4, Wires.none]
    · have h : anyRow rows (noticeRow k) = false :=
        anyRow_false (fun r h => (Bool.and_eq_true_iff.mp h).1) hf
      rw [e5, htold]
      simp [h, f5, Wires.none]
    · rw [e10, htold]
      show a.wires.testReleased[k] = false
      rw [f10]
      simp [Wires.none]
    · rw [e9, htold]
      show a.wires.testHeld[k] = false
      rw [f9]
      simp [Wires.none]
    · rw [y3, htold]
      show a.wires.outcome[k] = none
      rw [hout k hm, hw]
      simp [Wires.none]
  · intro e he
    obtain ⟨x, hx, h1, h2⟩ := uafter.logged e (by
      rw [uev]
      exact List.mem_append.mpr (.inl (List.mem_append.mpr (.inl he))))
    exact ⟨x, hx, h1, h2.trans (by rw [uscu])⟩

/-- One row raised in a settled state. -/
theorem settle_row {s : State} {r : Fin 40} {value : Int} {es : List (Block × EventMsg)}
    (hw : s.wires = { Wires.none with events := es, rows := [⟨r, value⟩] }) (hs : s.Settled) (hroom : s.Roomy)
    (hst : s.eru.startDue = []) (hn : es.length ≤ 16)
    (hc : ∀ e ∈ es, e.2.code ≠ .opened ∧ e.2.code ≠ .counterOverflow) :
    RowTaken r value s (settle s) ∧ ∀ e ∈ es, ∃ x ∈ (settle s).eru.queue, x.msg = e.2 ∧ x.time = s.scu.clock := by
  have hone : ∀ f : Fin 40 → Bool, anyRow [⟨r, value⟩] f = f r := fun f => by simp [anyRow]
  obtain ⟨h, he⟩ := settle_rows hw hs hroom hst (by simp; omega) hc
  refine ⟨{
    taken := fun b hb => h.taken b (by rw [hone]; exact hb)
    begun := fun b hb hr => h.begun b (by rw [hone]; exact hb) hr
    logged := h.logged ⟨r, value⟩ (List.mem_cons_self ..)
    queue := h.queue
    intertrip := fun k hk => h.intertrip k (by rw [hone]; exact hk)
    commands := fun w j hk => h.commands w j (fun k hm => hk k (by rw [hone] at hm; exact hm))
    holds := fun k hk => h.holds k (by rw [hone]; exact hk)
    phaseBack := fun hp => h.phaseBack (by rw [hone]; exact hp)
    extended := fun hp => h.extended (by rw [hone]; exact hp)
    noPhaseBack := fun hp => h.noPhaseBack (by rw [hone]; exact hp)
    record := by have := h.record; rwa [hone] at this
    start := fun k hf hr => h.start k (by rw [hone, hf, hr]; simp)
    straps := h.straps, times := h.times, bus := h.bus, service := h.service, measurements := h.measurements
    protection := h.protection, settings := h.settings, rectifier := h.rectifier, recorder := h.recorder
    counters := h.counters, pending := h.pending
    duty := fun b hb => h.duty b (by rw [hone]; exact hb)
    breakers := fun b hb => h.breakers b (by rw [hone]; exact hb)
    contactors := h.contactors
    sequences := fun k hk hf => h.sequences k (by rw [hone]; exact hk) (by rw [hone]; simpa using hf) }, he⟩

end Sys2Proof.Machine
end

