-- ==== Sys2Proof/Laws/Telegrams.lean ====
section
/-! SUPPORT. Telegrams as bytes read back (R30, R42, R43), and what a telegram does that hands the other blocks
nothing. -/

namespace Sys2Proof.Machine

/-! ## Bytes and words -/

@[simp] theorem wordOf_wordBytes (w : Word) : wordOf ((w >>> 8).setWidth 8) (w.setWidth 8) = w := by
  unfold wordOf
  apply BitVec.eq_of_getLsbD_eq
  intro i hi
  by_cases h : i < 8
  · simp [h, hi]
  · simp only [BitVec.getLsbD_or, BitVec.getLsbD_shiftLeft, BitVec.getLsbD_setWidth, BitVec.getLsbD_ushiftRight]
    have h1 : 8 + (i - 8) = i := by omega
    have h2 : i - 8 < 8 := by omega
    have h3 : i - 8 < 16 := by omega
    simp [h, hi, h1, h2, h3]

@[simp] theorem wordsOf_bytesOf (ws : List Word) : wordsOf (bytesOf ws) = ws := by
  induction ws with
  | nil => rfl
  | cons w ws ih =>
    simp only [bytesOf, List.flatMap_cons, wordBytes, List.cons_append, List.nil_append, wordsOf, wordOf_wordBytes]
    exact congrArg _ ih

@[simp] theorem bytesOf_length (ws : List Word) : (bytesOf ws).length = 2 * ws.length := by
  induction ws with
  | nil => rfl
  | cons w ws ih =>
    simp [bytesOf, wordBytes] at *
    omega

/-- The three words of a 48-bit value, joined, are the value. -/
theorem join_word3 (v : BitVec 48) : (v >>> 32).setWidth 16 ++ (v >>> 16).setWidth 16 ++ v.setWidth 16 = v := by
  apply BitVec.eq_of_getLsbD_eq
  intro i hi
  simp only [BitVec.getLsbD_append, BitVec.getLsbD_setWidth, BitVec.getLsbD_ushiftRight]
  by_cases h : i < 16
  · simp [h]
  · by_cases h2 : i < 32
    · have h3 : 16 + (i - 16) = i := by omega
      have h4 : i - 16 < 16 := by omega
      simp [h, h3, h4]
    · have h3 : 32 + (i - 16 - 16) = i := by omega
      have h4 : ¬ i - 16 < 16 := by omega
      have h5 : i - 16 - 16 < 16 := by omega
      simp [h, h3, h4, h5]

/-- The two words of a 32-bit value, joined, are the value. -/
theorem join_word2 (v : BitVec 32) : (v >>> 16).setWidth 16 ++ v.setWidth 16 = v := by
  apply BitVec.eq_of_getLsbD_eq
  intro i hi
  simp only [BitVec.getLsbD_append, BitVec.getLsbD_setWidth, BitVec.getLsbD_ushiftRight]
  by_cases h : i < 16
  · simp [h]
  · have h1 : 16 + (i - 16) = i := by omega
    have h2 : i - 16 < 16 := by omega
    simp [h, h1, h2]

/-! ## Checks of a telegram -/

@[simp] theorem tableOfCode_code (t : TableId) : tableOfCode (byte1 t.code) = some t := by
  cases t with
  | group g => cases g <;> decide
  | _ => decide

/-- A framed telegram passes the CRC check, so that its type, payload and operands decide (R30). -/
theorem checkTelegram_framed {t : Byte} {p : List Byte} {q : Request} (h : parseTyped t p = .accept q)
    (hs : scuCheck q = none) : checkTelegram (telegramBytes t p) = .accept q := by
  unfold checkTelegram telegramBytes
  generalize hb : t :: wordBytes (word1 p.length) ++ p = body
  have hl : (body ++ wordBytes (crc body)).length = body.length + 2 := by simp [wordBytes]
  have hn : body.length + 2 - 2 = body.length := by omega
  have ht : (body ++ wordBytes (crc body)).take body.length = body := by simp
  have h0 : (body ++ wordBytes (crc body)).getD body.length 0 = (crc body >>> 8).setWidth 8 := by
    simp [List.getD, wordBytes]
  have h1 : (body ++ wordBytes (crc body)).getD (body.length + 2 - 1) 0 = (crc body).setWidth 8 := by
    simp [List.getD, wordBytes]
  have hd : body.drop 3 = p := by rw [← hb]; rfl
  have he : (body ++ wordBytes (crc body)).getD 0 0 = t := by rw [← hb]; rfl
  dsimp only
  rw [hl, hn, ht, h0, h1, wordOf_wordBytes, if_neg (by simp), hd, he, h]
  simp [hs]

/-! ## A telegram that hands the other blocks nothing -/

/-- The state in which the owner of a telegram finds the device (R29, R31). -/
def State.working (s : State) : State := s.onScu fun u => { u with assembly := .empty, buffer := [], work := .working }

/-- A telegram whose owner only answers in its frame: the REPLY, and the effects from the next frame when the result
is DONE (R31). -/
theorem telegram_answered {s : State} {q : Request} {a : Answer} (h : s.Quiet) (hw : s.scu.work = .free)
    (hq : scuCheck q = none) (hr : q.reaches = false) (ha : answer s.working q = some a)
    (hn : ownerNow s.working q = fun s => s) :
    telegram q s = doIf (a.result == .done) (ownerEnd s.working q) (giveReply q a s.working) := by
  have hne : (q == Request.restart) = false := by cases q <;> first | rfl | cases hr
  have hid : ∀ (b : Bool) (s : State), doIf b (fun s => s) s = s := fun b s => by cases b <;> rfl
  have hdo : doIf false scuRestart s.working = s.working := rfl
  have hflush : flush (giveReply q a s.working) = giveReply q a s.working := by
    apply flush_quiet
    constructor <;> simp only [giveReply] <;> split
    · exact h.wires
    · exact h.wires
    · exact h.start
    · exact h.start
  unfold telegram
  simp only [hw, if_true, hq]
  show serve q s.working = _
  unfold serve
  simp only [hne, hr, serveNow, serveEnd, accepted, ha, giveAnswer, hn, hdo]
  rw [hid, if_neg (by simp), hflush]

end Sys2Proof.Machine
end

