-- ==== Sys2Proof/Tests/Slice0.lean ====
section
/-! SUPPORT. The model's own tests: ill-formed commands refused, the worked figures of the spec, and for each statement
a state and operands that meet its hypotheses. -/

namespace Sys2Proof.Tests

open Sys2Proof.Machine

/-! ## Ill-formed commands (WellFormed) -/

theorem test_short_frame_refused : (Instr.frame ⟨.missing, Vector.replicate 48 SlotWord.silent, [], []⟩).wf = false := by
  decide

theorem test_load_of_wrong_length_refused :
    (Instr.loadSlotMap 0 1 1 [1, 1]).wf = false ∧ (Instr.loadIndication 0 0 2 [1]).wf = false ∧
      (Instr.loadGroupTable .matrix 1 0 1 [0, 0, 0, 0, 0]).wf = false ∧ (Instr.loadRecorder 0 0 1 [1]).wf = false ∧
      (Instr.loadCounters 0 0 1 [1]).wf = false := by decide

theorem test_load_above_the_payload_refused : loadFits 1 510 (List.replicate 510 0) = false := by decide +kernel

theorem test_interval_out_of_range_refused :
    (Instr.syncAcquired 15384).wf = false ∧ (Instr.syncAcquired 22223).wf = false ∧
      (Instr.syncAcquired 15385).wf = true := by decide

/-! ## Worked figures of the spec -/

/-- The published check value of a CRC with the parameters of 00_scope.md: 29B1h for the digits 1 to 9 in ASCII. -/
theorem test_crc_check_value : crc [0x31, 0x32, 0x33, 0x34, 0x35, 0x36, 0x37, 0x38, 0x39] = 0x29B1 := by decide +kernel

/-- The line voltage channel of 03, Worked figures. -/
def lineVoltage : ChanView := ⟨2, 3000, -20, 1200, 0, 2⟩

/-- 03, Scaling: the rows 1000, −100, −21 and 1700. -/
theorem test_scaling_rows :
    scale lineVoltage 1000 = 747 ∧ scale lineVoltage (-100) = -58 ∧ scale lineVoltage (-21) = 0 ∧
      stageResult lineVoltage Channel.powerOn (.present 1700) = ⟨1200, .saturated⟩ := by decide

/-- 04, worked case 1, frame 51: the rise of 1530 A at t = 50 trips. -/
theorem test_far_end_fault_trips :
    let v := { groupFeeder (Vector.replicate 870 0) 2 with sHold := 40, dISet := 1500, tMin := 50, tMax := 400 }
    let f := { Feeder.powerOn with
      rr := .rising, i0 := 800, rise := 49
      history := #v[⟨2330, .valid⟩, ⟨2300, .valid⟩, ⟨2270, .valid⟩, ⟨2240, .valid⟩, ⟨2210, .valid⟩] }
    (f.rising v).1.rr = .tripped ∧ (f.rising v).1.rise = 50 := by decide

/-- 04, worked case 1, frame 50: ΔI reaches 1500 A at t = 49, short of T_min. -/
theorem test_far_end_fault_waits_for_t_min :
    let v := { groupFeeder (Vector.replicate 870 0) 2 with sHold := 40, dISet := 1500, tMin := 50, tMax := 400 }
    let f := { Feeder.powerOn with
      rr := .rising, i0 := 800, rise := 48
      history := #v[⟨2300, .valid⟩, ⟨2270, .valid⟩, ⟨2240, .valid⟩, ⟨2210, .valid⟩, ⟨2180, .valid⟩] }
    (f.rising v).1.rr = .rising ∧ (f.rising v).1.rise = 49 := by decide

/-- 04, worked case 2, frame 25: the third end count, RISE_ENDED with 812. -/
theorem test_rise_that_ends :
    let v := { groupFeeder (Vector.replicate 870 0) 2 with sHold := 40, dISet := 1500, tMin := 50, tMax := 400 }
    let f := { Feeder.powerOn with
      rr := .rising, i0 := 1000, rise := 24, endCount := 2
      history := #v[⟨1812, .valid⟩, ⟨1810, .valid⟩, ⟨1808, .valid⟩, ⟨1806, .valid⟩, ⟨1804, .valid⟩] }
    (f.rising v).1.rr = .idle ∧ (f.rising v).2 = .ended 812 := by decide

/-- 04, worked case 3: the first block ends; and where θ stops falling. -/
theorem test_thermal_blocks :
    thetaAfter 600 0 4000000 = 66 ∧ thetaAfter 600 66 4000000 = 132 ∧ thetaAfter 600 59999 0 = 59999 := by decide

/-- 07, R145, worked figures. -/
theorem test_line_resistance :
    let v := { recloseView none 0 with nAvg := 16, iTestMin := 2 }
    lineResistance v 6440 130 = 50250 ∧ lineResistance v 196 245 = 800 ∧ lineResistance v 12000 9 = 4000000 ∧
      lineResistance v 12800 1600 = 8000 := by decide

/-- 08, one frame of regulation. -/
theorem test_regulation_worked_case :
    let v := { fallbackRect with
      uRefMax := 900, kc := 20, kp := 32, ki := 4, ud0 := 850, aMin := 50, aMax := 1400, iLim := 4000, kl := 200 }
    let law := fun i => if i = 55 then 308 else 290
    regulated v law 750 300 737280 790 2500 = ⟨800, 737320, 740, 296⟩ ∧ demandI v 790 4500 = 690 := by decide

/-- 08, a long braking period: 40,500 mJ a frame at 900 V. -/
theorem test_chopper_energy : chopperEnergy { fallbackRect with rCh := 2000 } 900 = 40500 := by decide

/-- 06, R116: the output in HOLD at 15 % is on for 7 µs of each 50 µs. -/
theorem test_hold_output :
    let d := fun n => { Drive.powerOn with state := .hold, dHold := 15, timer := n }
    (d 0).output = true ∧ (d 6).output = true ∧ (d 7).output = false ∧ (d 49).output = false ∧
      (d 50).output = true := by decide

/-- 01, agreement on indication word 3, frames n to n+3 and n+5. -/
theorem test_indication_agreement :
    let d0 : Indication := ⟨0x40, 0, 0, 0, true, 3, Clock.zero⟩
    let now : Clock := ⟨0, 9, 0⟩
    let d1 := (d0.receive now 0x41).skip
    let d3 := (d1.receive now 0x41).receive now 0x41
    let d5 := (d3.receive now 0xC1).receive now 0xC1
    d1.candCount = 0 ∧ d1.gap = 1 ∧ d1.agreed = 0x40 ∧ d3.agreed = 0x41 ∧
      reportsChange (d1.receive now 0x41) d3 = true ∧ d5.agreed = 0xC1 ∧
      reportsChange (d3.receive now 0xC1) d5 = false := by decide

/-! ## States for the tests -/

/-- The device after reset with its START record appended. -/
def calm : State := { State.reset with eru := { State.reset.eru with startDue := [] } }

/-- A state with the breakers of the calm state is at rest. -/
theorem rest_of {s : State} (hw : s.wires = Wires.none) (hs : s.eru.startDue = []) (hb : s.bdu = calm.bdu) : s.AtRest := by
  have h : ∀ b : Fin 7, (calm.breaker b).op = .none ∧
      (calm.breaker b).failedEnd (calm.drive (tripChannel b)) = false := by decide
  refine ⟨⟨hw, hs⟩, fun b hb' => ?_, fun b => ?_, fun b hb' => ?_⟩
  · exact absurd (by rw [State.breaker, hb]; exact (h b).1) hb'
  · have := (h b).2
    rwa [State.breaker, State.drive, ← hb] at this
  · exact absurd (by rw [State.breaker, hb]; exact (h b).1) hb'

/-- The breakers of a state are settled, as a test. -/
def settledNow (s : State) : Bool :=
  (List.finRange 7).all fun b =>
    let r := s.breaker b
    (r.op == .none || r.op.target != some r.position) && !r.failedEnd (s.drive (tripChannel b))
      && (r.op == .none || r.position == .unknown || r.moved)

theorem rest_by {s : State} (hw : s.wires = Wires.none) (hs : s.eru.startDue = []) (h : settledNow s = true) :
    s.AtRest := by
  have h' : ∀ b : Fin 7, _ := fun b => (List.all_eq_true.mp h) b (List.mem_finRange b)
  refine ⟨⟨hw, hs⟩, fun b hb => ?_, fun b => ?_, fun b hb hp => ?_⟩ <;> have := h' b <;>
    simp only [Bool.and_eq_true, Bool.or_eq_true, beq_iff_eq, bne_iff_ne, Bool.not_eq_true'] at this
  · exact this.1.1.resolve_left hb
  · exact this.1.2
  · exact (this.2.resolve_left (by simp [hb, hp]))

theorem rest_like {s s0 : State} (hb : s.bdu = s0.bdu) (hw : s.wires = Wires.none) (hs : s.eru.startDue = [])
    (h : settledNow s0 = true) : s.AtRest := by
  have : settledNow s = settledNow s0 := by simp only [settledNow, State.breaker, State.drive, hb]
  exact rest_by hw hs (this.trans h)

theorem roomy_of {s : State} (hq : s.eru.queue = []) (hc : s.cb.counters = calm.cb.counters) : s.Roomy := by
  have h : ∀ n : Fin 16, calm.cb.counters[n].value < 2 ^ 40 := by decide
  exact ⟨by rw [hq]; decide, fun n => by rw [hc]; exact h n⟩

/-! ## States and operands that meet the hypotheses of the statements -/

/-- Contents of a setting group in which every word is 1. -/
def ones : Contents := Vector.replicate 870 1

/-- The calm device with these contents in use as group A. -/
def inUse (w : Contents) : State :=
  calm.onSu fun u => { u with a := ⟨.active, 0, w⟩, inUse := some ⟨.a, w⟩ }

/-- A frame in which the bus is silent. -/
def silence (sync : SyncIn) : FrameInput := ⟨sync, Vector.replicate 48 SlotWord.silent, [], []⟩

/-- A frame with one slot word on a bus that is silent otherwise. -/
def carrying (i : Fin 48) (w : SlotWord) (sync : SyncIn) : FrameInput :=
  ⟨sync, (Vector.replicate 48 SlotWord.silent).set i w, [], []⟩

/-- The calm device in a sync state. -/
def inSync (x : SyncState) : State := calm.onSbi fun b => { b with sync := x }

/-- The calm device with a channel's output. -/
def reading (c : Fin 32) (v : Int) (s : State) : State := s.onMu fun m => m.set c { m[c] with out := ⟨v, .valid⟩ }

/-- A VALID output. -/
def sample (v : Int) : Output := ⟨v, .valid⟩

/-- A device whose channels hold a value through a missing frame. -/
def holding (v : Int) (s : State) : State :=
  s.onMu fun _ => Vector.replicate 32 ⟨v, 0, Vector.replicate 8 (sample v), 0, 0, sample v, sample v⟩

/-- The device under group A in HOLDOVER, every delay line full of a value, with indication word 0. -/
def running (v : Int) (w0 : Word) (w : Contents) : State :=
  (holding v (inUse w)).onSbi fun b => { b with
    sync := .holdover, words := b.words.set 0 { b.words[0] with valid := true, agreed := w0 } }

/-! ## Frames of the tests -/

/-- Indication word 0 with every breaker CLOSED. -/
def allClosed : Word := 0x2AAA

/-- Indication word 0 with the AC breaker CLOSED and the feeder breakers OPEN. -/
def feedersOpen : Word := 0x2555

/-- A frame without a bus, with these microseconds. -/
def alone (ms : List Micro) : FrameInput := { silence .missing with micros := ms }

/-- The slots and channels that the tests feed. -/
def feeds : List (Fin 48 × Nat) :=
  [(20, 1), (21, 2), (22, 3), (23, 4), (24, 5), (25, 6), (26, 7), (27, 8), (28, 13), (29, 16), (30, 17), (31, 18)]

/-- A frame of a bus in RUN that brings these channels a value each, with these microseconds. -/
def bringing (f : Nat → Word) (ms : List Micro) : FrameInput :=
  { sync := .atPlace false, micros := ms, disturbed := []
    slots := feeds.foldl (fun v x => v.set x.1 ⟨f x.2, 1⟩) (Vector.replicate 48 SlotWord.silent) }

/-- A frame of 750 in every channel. -/
def steady (ms : List Micro) : FrameInput := bringing (fun _ => 750) ms

/-- A slot map with the indication words in slots 1 to 16 and the channels of `feeds`. -/
def fed : Vector SlotEntry 48 :=
  feeds.foldl (fun m x => m.set x.1 ⟨1, 1, BitVec.ofNat 16 x.2⟩)
    ((List.finRange 16).foldl (fun m w => m.set (w.val + 1) ⟨2, 2, BitVec.ofNat 16 w.val⟩) (Vector.replicate 48 ⟨0, 0, 0⟩))

/-- The device in fallback operation and RUN with that map and indication word 0. -/
def standing (w0 : Word) : State :=
  calm.onSbi fun b => { b with
    sync := .run, map := fed, words := b.words.set 0 { b.words[0] with valid := true, agreed := w0 } }

/-- A frame, a state, and what is asked of the state and of the one after. -/
structure Row where
  inp : FrameInput
  state : State
  sees : State → State → Bool

/-- The frame is one of those that the statements about FRAME speak of, and shows what is asked. -/
def Row.Holds (r : Row) : Prop :=
  r.state.Plain ∧ exec (.frame r.inp) r.state = .next (frameWork r.inp r.state) ∧
    r.sees r.state (frameWork r.inp r.state) = true

/-- A row as a test, from the frame as it stands before its records. -/
def Row.check (r : Row) : Bool :=
  r.state.scu.job.isNone && r.state.su.verify.isNone && !r.state.su.scrubFailed &&
    r.sees r.state (forAll 6 closeBlockStep (forAll 7 markMoved (beforeRecords r.inp r.state).core))

/-- What is asked does not look at the service link, the records and the counters that the frame leaves. -/
def Blind : List Row → Prop
  | [] => True
  | r :: l => (∀ t, r.sees r.state t = r.sees r.state t.core) ∧ Blind l

theorem rows_hold {l : List Row} (h : l.all Row.check = true) (hb : Blind l) : ∀ r ∈ l, r.Holds := by
  induction l with
  | nil => exact fun _ h => (nomatch h)
  | cons r l ih =>
    obtain ⟨h1, h2⟩ := List.all_cons.symm.trans h |> Bool.and_eq_true_iff.mp
    simp only [Row.check, Bool.and_eq_true, Option.isNone_iff_eq_none, Bool.not_eq_true'] at h1
    intro x hx
    rcases List.mem_cons.mp hx with rfl | hx
    · refine ⟨⟨h1.1.1.1, h1.1.1.2, h1.1.2⟩, rfl, ?_⟩
      rw [hb.1, frameWork_core h1.1.1.1]
      exact h1.2
    · exact ih h2 hb.2 x hx

/-! ## The witnesses -/

theorem witness_StepRunsTheFrontCommand : ∃ s : State, s.pending = [.openAll, .scrub] :=
  ⟨{ calm with pending := [.openAll, .scrub] }, rfl⟩

theorem witness_BusEventsTakeEffect :
    (∃ s : State, s.AtRest ∧ s.straps.role = .follower ∧ s.sbi.sync = .search ∧ s.sbi.searchCount = 2) ∧
    (∃ s : State, s.AtRest ∧ s.Roomy ∧ s.straps.role = .follower ∧ s.sbi.sync = .holdover ∧ s.sbi.missing = 9) ∧
    (∃ s : State, s.AtRest ∧ s.Roomy ∧ s.sbi.blindFlag = true ∧ s.sbi.lostRaised = false ∧ tBlind s.su.inUse = 100 ∧
      s.sbi.blind = 999) ∧
    (∃ s : State, s.AtRest ∧ s.Roomy ∧ s.sbi.sync = .run ∧ s.sbi.map[1].kind = 1 ∧ s.sbi.map[1].tag = 1 ∧
      s.sbi.checks[1] = ⟨2, false⟩ ∧ s.sbi.checks[46] = ⟨2, false⟩) ∧
    (∃ s : State, s.AtRest ∧ s.sbi.words[15].gap = 9) :=
  ⟨⟨calm.onSbi fun b => { b with searchCount := 2 }, rest_of rfl rfl rfl, rfl, rfl, rfl⟩,
    ⟨calm.onSbi fun b => { b with sync := .holdover, missing := 9 }, rest_of rfl rfl rfl, roomy_of rfl rfl, rfl, rfl, rfl⟩,
    ⟨calm.onSbi fun b => { b with blindFlag := true, blind := 999 }, rest_of rfl rfl rfl, roomy_of rfl rfl, rfl, rfl,
      rfl, rfl⟩,
    ⟨(inSync .run).onSbi fun b => { b with checks := Vector.replicate 48 ⟨2, false⟩ }, rest_of rfl rfl rfl,
      roomy_of rfl rfl, rfl, by decide, by decide, by decide, by decide⟩,
    ⟨calm.onSbi fun b => { b with words := Vector.replicate 16 { Indication.powerOn with gap := 9 } },
      rest_of rfl rfl rfl, by decide⟩⟩

/-- A follower's sync state and count of spaced syncs, as a state. -/
def searching (n : Nat) : State := calm.onSbi fun b => { b with searchCount := n }

theorem witness_FrameFollowsTheSync :
    (∀ inp s, ∃ t, exec (.frame inp) s = .next t) ∧
    (∀ n, (searching n).straps.role = .follower ∧ (searching n).sbi.sync = .search ∧
      (searching n).sbi.searchCount = n) ∧
    (∀ x, (inSync x).straps.role = .follower ∧ (inSync x).sbi.sync = x ∧ (inSync x).sbi.missing = 0) ∧
    (∃ s : State, s.straps.role = .follower ∧ s.sbi.sync = .holdover ∧ s.sbi.missing = 9) ∧
    (∀ x, (silence x).sync = x) ∧
    ∀ w, (carrying 0 w (.atPlace true)).slots[0] = w ∧ (carrying 0 w (.atPlace true)).sync = .atPlace true :=
  ⟨fun _ _ => ⟨_, rfl⟩, fun _ => ⟨rfl, rfl, rfl⟩, fun _ => ⟨rfl, rfl, rfl⟩,
    ⟨(inSync .holdover).onSbi fun b => { b with missing := 9 }, rfl, rfl, rfl⟩, fun _ => rfl, fun _ => ⟨rfl, rfl⟩⟩

/-- The calm device in RUN with its up sender in a state. -/
def sending (up : Option UpTelegram) (reply : Option Reply) (level : Bool) (aborts : Nat) : State :=
  (inSync .run).onScu fun u => { u with up := up, reply := reply, level := level, abortCount := aborts }

theorem witness_FrameDrivesTheSlots :
    (∃ s t inp, s.su.verify = none ∧ s.su.scrubFailed = false ∧ exec (.frame inp) s = .next t ∧ t.sbi.sync = .run ∧
      s.straps.role = .follower ∧ s.sbi.map[30].kind = 3 ∧ s.sbi.map[30].target.toNat = 0 ∧ s.sbi.map[45].kind ≠ 3 ∧
      s.scu.job ≠ some .restart ∧ s.scu.up = none ∧ s.scu.reply = none ∧ s.eru.queue = []) ∧
    (∃ s t inp, s.su.verify = none ∧ s.su.scrubFailed = false ∧ exec (.frame inp) s = .next t ∧ t.sbi.sync = .search) ∧
    (∃ s t inp, s.su.verify = none ∧ s.su.scrubFailed = false ∧ exec (.frame inp) s = .next t ∧ t.sbi.sync = .run ∧
      s.straps.role = .master ∧ s.fresh = true) ∧
    (∀ up reply level aborts, (sending up reply level aborts).su.verify = none ∧
      (sending up reply level aborts).su.scrubFailed = false ∧ (sending up reply level aborts).scu.job ≠ some .restart ∧
      (sending up reply level aborts).scu.up = up ∧ (sending up reply level aborts).scu.reply = reply ∧
      (sending up reply level aborts).scu.level = level ∧ (sending up reply level aborts).scu.abortCount = aborts ∧
      (syncStep (silence (.atPlace false)) (sending up reply level aborts)).sbi.sync = .run) :=
  ⟨⟨inSync .run, frameWork (silence (.atPlace false)) (inSync .run), silence (.atPlace false), rfl, rfl, rfl,
      by decide +kernel, rfl, by decide, by decide, by decide, by decide, rfl, rfl, rfl⟩,
    ⟨calm, frameWork (silence .missing) calm, silence .missing, rfl, rfl, rfl, by decide +kernel⟩,
    ⟨State.powerOn { strapsLow with role := .master }, _, silence .missing, rfl, rfl, rfl, by decide +kernel, rfl, rfl⟩,
    fun _ _ _ _ => ⟨rfl, rfl, nofun, rfl, rfl, rfl, rfl, rfl⟩⟩

/-- The calm device in RUN with an indication word. -/
def indicating (w : Fin 16) (d : Indication) : State := (inSync .run).onSbi fun b => { b with words := b.words.set w d }

theorem witness_FrameAgreesOnIndicationWords :
    (∃ (s t : State) (inp : FrameInput) (w : Fin 16) (i : Fin 48), s.scu.job = none ∧ exec (.frame inp) s = .next t ∧
      t.sbi.sync = .run ∧ mapUnique s.sbi.map = true ∧ i.val ≠ 46 ∧ s.sbi.map[i].kind = 2 ∧
      s.sbi.map[i].target.toNat = w.val ∧ inp.slots[i] ≠ ⟨0xFFFF, 15⟩ ∧
      inp.slots[i].tag.toNat = s.sbi.map[i].tag.toNat ∧ s.sbi.words[w].candCount = 1 ∧
      inp.slots[i].data = s.sbi.words[w].candidate ∧ s.sbi.words[w].candidate ≠ s.sbi.words[w].agreed) ∧
    (∃ (s t : State) (inp : FrameInput) (i : Fin 48), s.scu.job = none ∧ exec (.frame inp) s = .next t ∧
      t.sbi.sync = .run ∧ mapUnique s.sbi.map = true ∧ i.val ≠ 46 ∧ s.sbi.map[i].kind = 2 ∧
      s.sbi.map[i].target.toNat = 7 ∧ inp.slots[i] = ⟨0xFFFF, 15⟩ ∧ s.sbi.words[7].gap = 9) ∧
    (∃ t, exec (.frame (silence .missing)) calm = .next t ∧ t.sbi.sync ≠ .run) ∧
    (∃ (s : State) (v : Word), 1 ≤ s.sbi.words[0].candCount ∧ v = s.sbi.words[0].candidate ∧
      (s.sbi.words[0].agreed ^^^ v) &&& s.sbi.words[0].mask ≠ 0) :=
  ⟨⟨indicating 7 ⟨5, 9, 1, 3, true, 0, Clock.zero⟩, _, carrying 27 ⟨9, 8⟩ (.atPlace false), 7, 27, rfl, rfl,
      by decide +kernel, by decide +kernel, by decide, by decide, by decide, by decide, by decide, by decide, by decide,
      by decide⟩,
    ⟨indicating 7 ⟨5, 9, 1, 9, true, 0, Clock.zero⟩, _, silence (.atPlace false), 27, rfl, rfl, by decide +kernel,
      by decide +kernel, by decide, by decide, by decide, by decide, by decide⟩,
    ⟨_, rfl, by decide +kernel⟩,
    ⟨indicating 0 ⟨5, 9, 1, 0, true, 0xC, Clock.zero⟩, 9, by decide, by decide, by decide⟩⟩

theorem witness_FrameMeasuresAndKeepsWhatIsLoaded :
    (∃ s t inp, s.su.verify = none ∧ s.su.scrubFailed = false ∧ s.scu.job = none ∧ exec (.frame inp) s = .next t ∧
      t.sbi.sync = .search ∧ ∀ d ∈ inp.disturbed, d.group = .a → d.index ≠ 0) ∧
    (∃ s t inp, s.su.verify = none ∧ s.su.scrubFailed = false ∧ s.scu.job = none ∧ exec (.frame inp) s = .next t ∧
      t.sbi.sync = .holdover) ∧
    (∃ s t inp, s.su.verify = none ∧ s.su.scrubFailed = false ∧ s.scu.job = none ∧ exec (.frame inp) s = .next t ∧
      t.sbi.sync = .run ∧ mapUnique s.sbi.map = true ∧ s.sbi.map[1].kind = 1 ∧ s.sbi.map[1].target.toNat = 1 ∧
      ∀ i : Fin 48, s.sbi.map[i].kind = 1 → s.sbi.map[i].target.toNat ≠ 31) ∧
    (∃ v : ChanView, v.kind ≠ 0 ∧ v.delay < 8 ∧ (scale v 1199).natAbs < v.limit ∧ v.limit ≤ (scale v 1200).natAbs ∧
      v.limit ≤ (scale v (-1200)).natAbs) :=
  ⟨⟨calm, frameWork (silence .missing) calm, silence .missing, rfl, rfl, rfl, rfl, by decide +kernel,
      by simp [silence]⟩,
    ⟨inSync .run, frameWork (silence .missing) (inSync .run), silence .missing, rfl, rfl, rfl, rfl, by decide +kernel⟩,
    ⟨inSync .run, frameWork (silence (.atPlace false)) (inSync .run), silence (.atPlace false), rfl, rfl, rfl, rfl,
      by decide +kernel, by decide +kernel, by decide, by decide, by decide +kernel⟩,
    ⟨⟨2, 4096, 0, 1200, 7, 2⟩, by decide⟩⟩

theorem witness_FrameAnswersAQueryInHand :
    ∃ s t inp q data, s.scu.work = .working ∧ s.scu.job = some q ∧ s.scu.reply = none ∧ s.scu.assembly = .empty ∧
      s.scu.up = none ∧ s.su.verify = none ∧ s.su.scrubFailed = false ∧ q.typeByte = 5 ∧
      (answer (startOfFrame inp s) q).map Answer.data = some data ∧
      (answer (startOfFrame inp s) q).map Answer.result = some .done ∧ exec (.frame inp) s = .next t :=
  ⟨calm.onScu fun u => { u with work := .working, job := some .queryCounters }, _, silence .missing, .queryCounters, _,
    rfl, rfl, rfl, rfl, rfl, rfl, rfl, rfl, rfl, rfl, rfl⟩

theorem witness_TheClockAdvancesAndIsSet :
    (∃ s t inp c, exec (.frame inp) s = .next t ∧ s.scu.clockLoad = some c) ∧
    (∃ s t inp, exec (.frame inp) s = .next t ∧ s.scu.clockLoad = none ∧ s.fresh = true) ∧
    (∃ s t inp, exec (.frame inp) s = .next t ∧ s.scu.clockLoad = none ∧ s.fresh = false ∧
      s.scu.clock = ⟨65535, 86399999, 9⟩) ∧
    (∃ (s : State) (ms : BitVec 32), s.AtRest ∧ s.scu.work = .free ∧ ms.toNat = 86399999) :=
  ⟨⟨calm.onScu fun u => { u with clockLoad := some ⟨1, 2, 0⟩ }, _, silence .missing, ⟨1, 2, 0⟩, rfl, rfl⟩,
    ⟨calm, _, silence .missing, rfl, rfl, rfl⟩,
    ⟨{ calm with fresh := false }.onScu fun u => { u with clock := ⟨65535, 86399999, 9⟩ }, _, silence .missing, rfl, rfl,
      rfl, rfl⟩,
    ⟨calm, 86399999, rest_of rfl rfl rfl, rfl, by decide⟩⟩

theorem witness_TransfersEndAndTelegramsGoUp :
    (∃ s : State, s.AtRest ∧ s.sbi.sync = .run ∧ s.scu.abortCount = 1) ∧
    (∃ s : State, s.AtRest ∧ s.scu.assembly ≠ .empty ∧ s.scu.gap = 199) ∧
    (∃ s : State, s.AtRest ∧ s.scu.up = some ⟨.reply, [1, 2], true, true⟩) ∧
    (∃ (s : State) (r : Reply), s.AtRest ∧ s.scu.up = some ⟨.reply, [1], false, true⟩ ∧ s.scu.reply = some r ∧
      r.showsOverflow = true) ∧
    (∃ s : State, s.AtRest ∧ s.scu.up = some ⟨.event, [1], false, true⟩) ∧
    (∃ (s : State) (r : Reply), s.AtRest ∧ s.scu.up = none ∧ s.scu.abortCount = 0 ∧ s.scu.reply = some r) ∧
    (∃ s : State, s.AtRest ∧ s.scu.up = none ∧ s.scu.abortCount = 0 ∧ s.scu.reply = none ∧ s.eru.queue.length = 9) ∧
    (∃ s : State, s.AtRest ∧ s.scu.up = none ∧ s.scu.abortCount = 0 ∧ s.scu.reply = none ∧ s.eru.queue = []) :=
  ⟨⟨(inSync .run).onScu fun u => { u with abortCount := 1 }, rest_of rfl rfl rfl, rfl, rfl⟩,
    ⟨calm.onScu fun u => { u with assembly := .discarding, gap := 199 }, rest_of rfl rfl rfl, by decide, rfl⟩,
    ⟨calm.onScu fun u => { u with up := some ⟨.reply, [1, 2], true, true⟩ }, rest_of rfl rfl rfl, rfl⟩,
    ⟨calm.onScu fun u => { u with up := some ⟨.reply, [1], false, true⟩, reply := some ⟨5, .done, [], true⟩ },
      ⟨5, .done, [], true⟩, rest_of rfl rfl rfl, rfl, rfl, rfl⟩,
    ⟨calm.onScu fun u => { u with up := some ⟨.event, [1], false, true⟩ }, rest_of rfl rfl rfl, rfl⟩,
    ⟨calm.onScu fun u => { u with reply := some ⟨5, .done, [], true⟩ }, ⟨5, .done, [], true⟩, rest_of rfl rfl rfl, rfl,
      rfl, rfl⟩,
    ⟨calm.onEru fun e => { e with queue := List.replicate 9 ⟨0, Clock.zero, busLostEvent, false⟩ }, rest_of rfl rfl rfl,
      rfl, rfl, rfl, rfl⟩,
    ⟨calm, rest_of rfl rfl rfl, rfl, rfl, rfl, rfl⟩⟩

/-- The calm device with the first bytes of a telegram assembled. -/
def assembling (bytes : List Byte) : State := calm.onScu fun u => { u with assembly := .assembling, buffer := bytes }

theorem witness_TakeByteAssemblesTelegrams :
    (calm.AtRest ∧ calm.scu.work = .free ∧ calm.scu.assembly ≠ .assembling) ∧
    (∃ s : State, s.AtRest ∧ s.scu.work ≠ .free) ∧
    (∀ bytes, (assembling bytes).AtRest ∧ (assembling bytes).scu.assembly = .assembling ∧
      (assembling bytes).scu.buffer = bytes) ∧
    telegramLength ([4, 4] ++ [1]) = 1025 ∧
    telegramLength [4, 4, 0, 3] = 1024 ∧
    (let bytes := telegramBytes 4 [3]; telegramLength bytes = 1 ∧ bytes.length = 6 ∧
      checkTelegram bytes = .accept .closeAc) ∧
    (let bytes : List Byte := [4, 0, 1, 3, 0, 0]; telegramLength bytes = 1 ∧ bytes.length = 6 ∧
      checkTelegram bytes = .refuse .crcError) :=
  ⟨⟨rest_of rfl rfl rfl, rfl, by decide⟩,
    ⟨calm.onScu fun u => { u with work := .replyPending }, rest_of rfl rfl rfl, by decide⟩,
    fun _ => ⟨rest_of rfl rfl rfl, rfl, rfl⟩, by decide, by decide, by decide +kernel, by decide +kernel⟩

/-- The calm device in RUN with its down receiver in a state. -/
def receiving (pair : Option (Bool × Byte × Bool)) (aborts : Nat) (up : Option UpTelegram) : State :=
  (inSync .run).onScu fun u => { u with pair := pair.map fun p => ⟨p.1, p.2.1, p.2.2⟩, abortRun := aborts, up := up
                                        lastWt := some false }

theorem witness_FrameReceivesServiceBytes :
    (∀ pair aborts up, (receiving pair aborts up).scu.job = none ∧ (receiving pair aborts up).su.verify = none ∧
      (receiving pair aborts up).scu.abortRun = aborts ∧ (receiving pair aborts up).scu.work = .free ∧
      (receiving pair aborts up).scu.wt = false ∧ (receiving pair aborts up).scu.abortCount = 0 ∧
      (receiving pair aborts up).scu.up = up ∧ (receiving pair aborts up).scu.wv = false ∧
      (receiving pair aborts up).scu.lastWt = some false ∧ (receiving pair aborts up).scu.gap < 199 ∧
      (receiving pair aborts up).scu.pair = pair.map fun p => ⟨p.1, p.2.1, p.2.2⟩) ∧
    (∀ d, ∃ t, exec (.frame (carrying 46 ⟨d, 0⟩ (.atPlace false))) (receiving none 0 none) = .next t ∧
      (carrying 46 ⟨d, 0⟩ (.atPlace false)).slots[46].tag.toNat = 0) ∧
    (frameWork (carrying 46 ⟨0x0305, 0⟩ (.atPlace false)) (receiving (some (true, 5, true)) 0 none)).sbi.sync = .run ∧
    (serviceOf 0x0305 = ⟨5, true, true, false, false⟩ ∧ serviceOf 0x0000 = ⟨0, false, false, false, false⟩ ∧
      serviceOf 0x0A00 = ⟨0, false, true, false, true⟩) ∧
    (∃ t, exec (.frame (silence .missing)) calm = .next t ∧ t.sbi.sync ≠ .run) :=
  ⟨fun _ _ _ => ⟨rfl, rfl, rfl, rfl, rfl, rfl, rfl, rfl, rfl, (by decide : 0 < 199), rfl⟩, fun _ => ⟨_, rfl, rfl⟩,
    by decide +kernel, by decide, ⟨_, rfl, by decide +kernel⟩⟩

theorem witness_TelegramsAreHeldBackOrRefused :
    (∃ s : State, s.scu.work ≠ .free) ∧ calm.scu.work = .free ∧ 6 < (7 : Byte).toNat ∧ 5 < (6 : Byte).toNat ∧
      (15 : Word).toInt ∉ ([5, 10, 20, -5, -10, -20] : List Int) ∧ 2 ^ 40 ≤ (0x10000000000 : BitVec 48).toNat ∧
      48 < (49 : Word).toNat ∧ 2048 < (2001 : Word).toNat + (48 : Word).toNat ∧
      86399999 < (86400000 : BitVec 32).toNat :=
  ⟨⟨calm.onScu fun u => { u with work := .working }, by decide⟩, rfl, by decide, by decide, by decide, by decide,
    by decide, by decide, by decide⟩

theorem witness_LoadStoresAGroupTable :
    (∃ s : State, s.AtRest ∧ s.takes (.load (.group .firingLaw) 1 64 1 [1500]) ∧
      (s.su.groupRec (groupOf 1)).state = .active) ∧
    (∃ s : State, s.AtRest ∧ s.takes (.load (.group .firingLaw) 1 64 1 [1500]) ∧
      (s.su.groupRec (groupOf 1)).state = .verifying) ∧
    (∃ s : State, s.AtRest ∧ s.takes (.load (.group .firingLaw) 1 65 1 [1500]) ∧
      (s.su.groupRec (groupOf 1)).state = .empty ∧ tableSize .firingLaw = 65) ∧
    (∃ s : State, s.AtRest ∧ s.takes (.load (.group .firingLaw) 1 64 1 [1501]) ∧
      (s.su.groupRec (groupOf 1)).state = .empty ∧
      everyEntry (fun _ => entryOk (fieldTable .firingLaw)) (tableWidth .firingLaw) 1 [1501] = false ∧
      everyEntry (fun _ => entryOk (fieldTable .firingLaw)) (tableWidth .firingLaw) 1 [1500] = true) ∧
    (calm.scu.work = .free ∧ [(1500 : Word)].length ≠ (2 : Word).toNat * tableWidth .firingLaw ∧
      [(1500 : Word)].length = (1 : Word).toNat * tableWidth .firingLaw ∧ 6 + 2 * [(1500 : Word)].length ≤ 1024 ∧
      2 < (3 : Byte).toNat) :=
  ⟨⟨inUse ones, rest_of rfl rfl rfl, by constructor <;> decide, rfl⟩,
    ⟨calm.onSu fun u => { u with a := { u.a with state := .verifying } }, rest_of rfl rfl rfl,
      by constructor <;> decide, rfl⟩,
    ⟨calm, rest_of rfl rfl rfl, by constructor <;> decide, rfl, rfl⟩,
    ⟨calm, rest_of rfl rfl rfl, by constructor <;> decide, rfl, by decide, by decide⟩,
    rfl, by decide, by decide, by decide, by decide⟩

theorem witness_LoadStoresTheSlotMap :
    calm.AtRest ∧
      (calm.takes (.load .slotMap 0 45 1 [2, 3, 15]) ∧
        everyEntry (fun _ e => slotEntryOk calm.straps.addr (slotEntryOf e)) 3 1 [2, 3, 15] = true ∧
        mapUnique (mapWith calm.sbi.map 45 [2, 3, 15] 1) = true) ∧
      (calm.takes (.load .slotMap 0 45 1 [2, 3, 7]) ∧ mapUnique (mapWith calm.sbi.map 45 [2, 3, 7] 1) = false) ∧
      (calm.takes (.load .slotMap 0 45 1 [4, 3, 15]) ∧
        everyEntry (fun _ e => slotEntryOk calm.straps.addr (slotEntryOf e)) 3 1 [4, 3, 15] = false) :=
  ⟨rest_of rfl rfl rfl, ⟨by constructor <;> decide, by decide, by decide +kernel⟩,
    ⟨by constructor <;> decide, by decide +kernel⟩, by constructor <;> decide, by decide⟩

theorem witness_LoadStoresMasksAndProgrammes :
    calm.AtRest ∧ calm.takes (.load .indication 0 15 1 [7]) ∧
      (calm.takes (.load .recorder 0 0 1 [13, 1, 3, 5, 7, 9, 11, 31, 8, 75]) ∧
        entryOk recorderFields [13, 1, 3, 5, 7, 9, 11, 31, 8, 75] = true) ∧
      (calm.takes (.load .recorder 0 0 1 [13, 1, 3, 5, 7, 9, 11, 32, 8, 75]) ∧
        entryOk recorderFields [13, 1, 3, 5, 7, 9, 11, 32, 8, 75] = false) ∧
      (calm.takes (.load .counters 0 15 1 [3, 4, 4, 2, 0, 0, 4, 4, 2]) ∧
        everyEntry (fun _ => counterEntryOk) 9 1 [3, 4, 4, 2, 0, 0, 4, 4, 2] = true) ∧
      (calm.takes (.load .counters 0 15 1 [3, 5, 4, 2, 0, 0, 4, 4, 2]) ∧
        everyEntry (fun _ => counterEntryOk) 9 1 [3, 5, 4, 2, 0, 0, 4, 4, 2] = false) ∧
      (calm.scu.work = .free ∧ TableId.indication.wantsGroup = false ∧
        [(7 : Word)].length ≠ (2 : Word).toNat * TableId.indication.width ∧
        [(7 : Word)].length = (1 : Word).toNat * TableId.indication.width ∧
        ¬ (16 : Word).toNat + (1 : Word).toNat ≤ TableId.indication.highest + 1 ∧
        ¬ TableId.slotMap.lowest ≤ (0 : Word).toNat) :=
  ⟨rest_of rfl rfl rfl, by constructor <;> decide, ⟨by constructor <;> decide, by decide⟩,
    ⟨by constructor <;> decide, by decide⟩, ⟨by constructor <;> decide, by decide⟩,
    ⟨by constructor <;> decide, by decide⟩, rfl, rfl, by decide, by decide, by decide, by decide⟩

theorem witness_ReadReturnsWhatIsStored :
    calm.AtRest ∧ (calm.takes (.load .indication 0 15 1 [7]) ∧ (answerLoad calm .indication 0 15 1 [7]).result = .done) ∧
      calm.takes (.read (.group .station) 2 0 1) ∧ calm.takes (.read .slotMap 0 46 1) :=
  ⟨rest_of rfl rfl rfl, ⟨by constructor <;> decide, by decide⟩, by constructor <;> decide, by constructor <;> decide⟩

theorem witness_QueriesAnswerAndChangeNothing :
    calm.AtRest ∧ calm.scu.work = .free ∧ calm.eru.buffers[0].state ≠ .held ∧
      (∃ s : State, s.AtRest ∧ s.scu.work = .free ∧ s.eru.buffers[1].state = .held) ∧
      (2000 : Word).toNat + (48 : Word).toNat ≤ 2048 ∧
      (∃ two : Bool → Bool → Nat, ∀ p q, two p q = p.toNat + 2 * q.toNat) ∧ breakerOf 2 = 2 :=
  ⟨rest_of rfl rfl rfl, rfl, by decide, ⟨calm.onBuffer 1 fun b => { b with state := .held }, rest_of rfl rfl rfl, rfl,
    by decide⟩, by decide, ⟨_, fun _ _ => rfl⟩, rfl⟩

theorem witness_TelegramsAreReadBack :
    scuCheck (.counterPreload 15 0xFFFFFFFFFF) = none ∧
      checkTelegram (telegramBytes 4 ([15, 15] ++ bytesOf (word3 0xFFFFFFFFFF))) =
        .accept (.counterPreload 15 0xFFFFFFFFFF) := by decide +kernel

/-- The calm device with a breaker's position and operation. -/
def breakerAt (b : Fin 7) (p : Position) (o : Operation) (s : State) : State :=
  s.onBreaker b fun r => { r with position := p, op := o, moved := true }

/-- A rectifier that may run: a VALID sync, the AC breaker CLOSED, a VALID bus voltage. -/
def mayRun (s : State) : State :=
  { reading 13 750 (reading 1 750 (breakerAt 6 .closed .none s)) with timer := 7 }.onSync fun y => { y with valid := true }

/-- One word of a group's contents that pass verification under the straps of the calm device. -/
def passingWord (i : Nat) : Word :=
  if i < 192 then
    (if i % 6 = 0 then
      (if i / 6 = 13 then 2 else if i / 6 = 14 ∨ i / 6 = 15 then 1 else if 16 ≤ i / 6 ∧ i / 6 ≤ 18 then 3 else 0)
     else if i % 6 = 1 ∨ i % 6 = 3 then 1 else 0)
  else if i < 336 then
    (if (i - 192) % 24 = 0 ∨ (i - 192) % 24 = 18 ∨ ((i - 192) % 24 = 21 ∧ i ≠ 213) then 0 else if (i - 192) % 24 = 13 then 50
     else if (i - 192) % 24 = 14 then 10 else 1)
  else if i < 576 then 0
  else if i < 654 then
    (if 1 ≤ (i - 576) % 13 ∧ (i - 576) % 13 ≤ 4 then 100 else if (i - 576) % 13 = 7 then 0 else 1)
  else if i < 754 then (if (i - 654) % 5 = 1 then 10 else 1)
  else if i = 761 then 500
  else if i = 763 then 1500
  else if i = 772 then 2
  else if i = 774 then 100
  else if i = 775 then 0
  else if 780 ≤ i ∧ i ≤ 785 then BitVec.ofNat 16 (i - 767)
  else if i = 786 then 600
  else if i < 787 then 1
  else if i = 852 ∨ i = 853 then 20
  else 0

/-- Contents that pass verification. -/
def passing : Contents :=
  ⟨⟨(List.range' 0 870).map passingWord⟩, by simp only [List.size_toArray, List.length_map, List.length_range']⟩

theorem wordAt_passing (i : Nat) : wordAt passing i = passingWord i := by
  by_cases h : i < 870
  · simp [wordAt, passing, h]
  · rw [wordAt, dif_neg h, passingWord]
    repeat rw [if_neg (by omega)]

theorem passing_passes : firstFailure strapsLow passing = none := by
  simp only [firstFailure, entryPasses, entryWords, takeWords, crossChecks, feederChecks, rectifierChecks, masksClaimed,
    sameOutBit, kindIn, fieldN, fieldB, field, wordAt_passing]
  decide +kernel

/-- The calm device with a verification of group B in its last frame. -/
def verifying (w : Contents) (crc : Word) : State :=
  calm.onSu fun u => { u with b := ⟨.verifying, 0, w⟩, verify := some ⟨.b, crc, w, 1⟩ }

theorem ne_succ (x : Word) : x ≠ x + 1 := by
  intro h
  have := congrArg BitVec.toNat h
  simp only [BitVec.toNat_add] at this
  have hx := x.isLt
  simp at this
  omega

/-- The state of a verification in its last frame meets what the statements about its end ask for. -/
theorem verifying_ends (w : Contents) (c : Word) :
    (verifying w c).AtRest ∧ (verifying w c).Roomy ∧ (verifying w c).su.verify = some ⟨.b, c, w, 1⟩ ∧
      (verifying w c).su.scrubFailed = false ∧ (verifying w c).straps = strapsLow :=
  ⟨rest_of rfl rfl rfl, roomy_of rfl rfl, rfl, rfl, rfl⟩

theorem witness_VerificationStartsAndFails :
    (∃ s : State, s.AtRest ∧ s.scu.work = .free ∧ (s.su.groupRec (groupOf 1)).state = .edited) ∧
    (∃ s : State, s.AtRest ∧ s.scu.work = .free ∧ (s.su.groupRec (groupOf 1)).state = .active) ∧
    (∃ s : State, s.AtRest ∧ s.scu.work = .free ∧ (s.su.groupRec (groupOf 2)).state = .verifying) ∧
    (∀ w c, groupCrc w ≠ c → ∃ (v : Verify) (s : State), s.AtRest ∧ s.su.verify = some v ∧ v.left ≤ 1 ∧
      s.su.scrubFailed = false ∧ groupCrc v.words ≠ v.expected) ∧
    groupCrc ones ≠ groupCrc ones + 1 ∧
    (∀ w c, groupCrc w = c → firstFailure strapsLow w = some ⟨1, 0⟩ → ∃ (v : Verify) (s : State), s.AtRest ∧
      s.su.verify = some v ∧ v.left ≤ 1 ∧ s.su.scrubFailed = false ∧ groupCrc v.words = v.expected ∧
      firstFailure s.straps v.words = some ⟨1, 0⟩) ∧
    firstFailure strapsLow (Vector.replicate 870 0) = some ⟨1, 0⟩ :=
  ⟨⟨calm.onSu fun u => { u with a := { u.a with state := .edited } }, rest_of rfl rfl rfl, rfl, rfl⟩,
    ⟨inUse ones, rest_of rfl rfl rfl, rfl, rfl⟩,
    ⟨verifying ones 0, rest_of rfl rfl rfl, rfl, rfl⟩,
    fun w c h => ⟨⟨.b, c, w, 1⟩, verifying w c, (verifying_ends w c).1, rfl, Nat.le_refl 1, rfl, h⟩,
    ne_succ _,
    fun w c h hf => ⟨⟨.b, c, w, 1⟩, verifying w c, (verifying_ends w c).1, rfl, Nat.le_refl 1, rfl, h, hf⟩,
    by decide +kernel⟩

/-- The verification of group B in its last frame, with the blind time at the threshold of 20 × 10 frames and the
indication bit of feeder 0's intertrip-in set. -/
def verifyingUnder (w : Contents) (c : Word) : State :=
  (verifying w c).onSbi fun b => { b with
    blindFlag := true, blind := 200, words := b.words.set 1 { b.words[1] with valid := true, agreed := 2 } }

theorem verifyingUnder_ends (w : Contents) (c : Word) (h : groupCrc w = c) (hf : firstFailure strapsLow w = none) :
    ∃ (v : Verify) (s : State), s = verifyingUnder w c ∧ s.AtRest ∧ s.Roomy ∧ s.GroupsAgree ∧ s.su.verify = some v ∧
      v.left ≤ 1 ∧ v.group = .b ∧ v.words = w ∧ s.su.scrubFailed = false ∧ groupCrc v.words = v.expected ∧
      firstFailure s.straps v.words = none :=
  ⟨⟨.b, c, w, 1⟩, verifyingUnder w c, rfl, rest_of rfl rfl rfl, roomy_of rfl rfl,
    ⟨fun g => by cases g <;> exact ⟨fun h => (nomatch h), fun h => h.elim fun _ h => (nomatch h.1)⟩,
      fun v hv => by cases hv; rfl⟩, rfl, Nat.le_refl 1, rfl, rfl, rfl, h, hf⟩

/-- The device of `verifyingUnder` with the verified contents in use. -/
def verifiedUnder (c : Word) : State := (verifyingUnder passing c).onSu fun u => { u with inUse := some ⟨.b, passing⟩ }

/-- The verification of group B in its last frame, with a rectifier that fires in a state, a sequence with two attempts
and one that sums. -/
def verifyingFiring (st : RcuState) (c : Word) : State :=
  (((mayRun (verifying passing c)).onRcu fun u => { u with state := st, pendingThy := some 0 }).onSeq 0 fun q =>
    { q with state := .deadTime, attempts := 2 }).onSeq 1 fun q => { q with state := .lineTest, phase := .sum }

theorem verifyingFiring_agrees (st : RcuState) (c : Word) : (verifyingFiring st c).GroupsAgree :=
  ⟨fun g => by cases g <;> exact ⟨fun h => (nomatch h), fun h => h.elim fun _ h => (nomatch h.1)⟩,
    fun v hv => by cases hv; rfl⟩

/-- What the statement about a passed verification asks of a device that fires, before and under the new settings. -/
def firingMeets (s n : State) : Bool :=
  s.rect.sync1 == n.rect.sync1 && s.rect.sync2 == n.rect.sync2 && s.rect.sync3 == n.rect.sync3 &&
    n.busOut.quality != .invalid && (s.breaker 6).wasFitted == n.isFitted 6 && (s.breaker 6).position == .closed &&
    ((List.finRange 6).all fun k => !n.intertripNow k) && (s.breaker 0).wasFitted == n.isFitted 0 &&
    decide ((n.recloseRec 0).attempts < (s.seq 0).attempts) && (s.seq 0).state == .deadTime && (s.seq 1).phase == .sum &&
    decide (n.rect.aMin ≤ n.rect.aMax) &&
    !firesAt (forward (firingPoint 0 (clampNat n.rect.aMin n.rect.aMax s.rcu.alpha)) s.phaseCounter)

theorem verifyingFiring_ends (st : RcuState) (c : Word) :
    (verifyingFiring st c).AtRest ∧ (verifyingFiring st c).Roomy ∧ (verifyingFiring st c).GroupsAgree ∧
      (verifyingFiring st c).su.verify = some ⟨.b, c, passing, 1⟩ ∧ (verifyingFiring st c).su.scrubFailed = false ∧
      (verifyingFiring st c).straps = strapsLow ∧ (verifyingFiring st c).rcu.state = st ∧
      (verifyingFiring st c).rcu.sync.valid = true ∧ (verifyingFiring st c).sbi.blindFlag = false :=
  ⟨rest_like (s0 := mayRun calm) rfl rfl rfl (by decide), roomy_of rfl rfl, verifyingFiring_agrees st c, rfl, rfl, rfl, rfl,
    rfl, rfl⟩

theorem witness_PassedVerificationActivatesTheGroup :
    (∀ c, groupCrc passing = c → ∃ (v : Verify) (s : State), s = verifyingUnder passing c ∧ s.AtRest ∧ s.Roomy ∧
      s.GroupsAgree ∧ s.su.verify = some v ∧ v.left ≤ 1 ∧ v.group = .b ∧ v.words = passing ∧
      s.su.scrubFailed = false ∧ groupCrc v.words = v.expected ∧ firstFailure s.straps v.words = none) ∧
    (decide (tBlind (verifiedUnder 0).su.inUse = 20) && decide ((verifiedUnder 0).sbi.blind = 200) &&
      (verifiedUnder 0).sbi.blindFlag && !(verifiedUnder 0).sbi.lostRaised && (verifiedUnder 0).intertripNow 0 &&
      !((verifiedUnder 0).feeder 0).intertrip &&
      ((verifiedUnder 0).breaker 0).wasFitted == (verifiedUnder 0).isFitted 0 &&
      ((verifiedUnder 0).breaker 5).wasFitted != (verifiedUnder 0).isFitted 5) = true ∧
    (∀ st c, (verifyingFiring st c).AtRest ∧ (verifyingFiring st c).Roomy ∧ (verifyingFiring st c).GroupsAgree ∧
      (verifyingFiring st c).su.verify = some ⟨.b, c, passing, 1⟩ ∧ (verifyingFiring st c).su.scrubFailed = false ∧
      (verifyingFiring st c).straps = strapsLow ∧ (verifyingFiring st c).rcu.state = st ∧
      (verifyingFiring st c).rcu.sync.valid = true ∧ (verifyingFiring st c).sbi.blindFlag = false) ∧
    firingMeets (verifyingFiring .regulating 0) ((verifyingFiring .regulating 0).onSu fun u =>
      { u with inUse := some ⟨.b, passing⟩ }) = true ∧
    ((inUse ones).rect.sync1 ≠ (groupRect passing).sync1) :=
  ⟨fun c h => verifyingUnder_ends passing c h passing_passes, by decide +kernel,
    verifyingFiring_ends, by decide +kernel, by decide +kernel⟩

/-- The calm device with group A in use, its recorded CRC, and a scrub due. -/
def scrubbing (w : Contents) (c : Word) : State :=
  ((inUse w).onSu fun u => { u with a := ⟨.active, c, w⟩, scrubTimer := 9999 }).onSbi fun b =>
    { b with blindFlag := true, blind := 1000 }

theorem scrubbing_due (w : Contents) (c : Word) :
    (scrubbing w c).AtRest ∧ (scrubbing w c).Roomy ∧ (scrubbing w c).su.inUse = some ⟨.a, w⟩ ∧
      (scrubbing w c).su.scrubTimer = 9999 ∧ (scrubbing w c).su.scrubFailed = false ∧
      (scrubbing w c).rcu.state = .blocked ∧ (scrubbing w c).su.groupRec .a = ⟨.active, c, w⟩ :=
  ⟨rest_of rfl rfl rfl, roomy_of rfl rfl, rfl, rfl, rfl, rfl, rfl⟩

/-- The calm device with group A in use, its scrub failed in the frame before, and a verification of B ending. -/
def failedScrub (w : Contents) (c : Word) : State :=
  calm.onSu fun u => { u with
    a := ⟨.active, 0, ones⟩, b := ⟨.verifying, 0, w⟩, inUse := some ⟨.a, ones⟩, scrubFailed := true
    verify := some ⟨.b, c, w, 1⟩ }

theorem failedScrub_agrees (w : Contents) (c : Word) : (failedScrub w c).GroupsAgree :=
  ⟨fun g => by
    cases g
    · exact ⟨fun _ => ⟨_, rfl, rfl⟩, fun _ => rfl⟩
    · exact ⟨fun h => (nomatch h), fun ⟨u, h, hu⟩ => by cases h; cases hu⟩,
    fun v hv => by cases hv; rfl⟩

/-- What the statement about the scrub asks of a device that fires on. -/
def scrubMeets (s : State) : Bool :=
  s.rect.sync1 == 16 && s.rect.sync2 == 17 && s.rect.sync3 == 18 && s.mu[13].out.quality != .invalid &&
    (s.breaker 6).wasFitted && (s.breaker 6).position == .closed &&
    (s.breaker 0).wasFitted == (s.onSu fun u => { u with inUse := none }).isFitted 0

/-- A scrub due of verified contents, with a rectifier that fires in a state and a sequence under way. -/
def scrubbingFiring (st : RcuState) (c : Word) : State :=
  (((mayRun (scrubbing passing c)).onSbi fun b => { b with blindFlag := false }).onRcu fun u =>
    { u with state := st, pendingThy := some 0 }).onSeq 0 fun q => { q with state := .deadTime, attempts := 1 }

theorem witness_ScrubChecksTheActiveGroup :
    (∀ w c, ∃ (u : InUse) (s : State), s.AtRest ∧ s.Roomy ∧ s.su.inUse = some u ∧ s.su.scrubTimer = 9999 ∧
      s.su.scrubFailed = false ∧ s.rcu.state = .blocked ∧ s.su.groupRec u.group = ⟨.active, c, w⟩ ∧
      s.sbi.blindFlag = true ∧ s.sbi.lostRaised = false ∧ s.sbi.blind = 1000) ∧
    (∃ c, groupCrc ones = c) ∧ (∃ c, groupCrc ones ≠ c) ∧
    (∀ w c, ∃ (u : InUse) (v : Verify) (s : State), s.AtRest ∧ s.Roomy ∧ s.GroupsAgree ∧ s.su.inUse = some u ∧
      s.su.scrubFailed = true ∧ s.su.verify = some v ∧ v.left ≤ 1 ∧ v.words = w ∧ v.expected = c ∧
      s.straps = strapsLow) ∧
    firstFailure strapsLow passing = none ∧
    (∀ st c, (scrubbingFiring st c).AtRest ∧ (scrubbingFiring st c).Roomy ∧
      (scrubbingFiring st c).su.inUse = some ⟨.a, passing⟩ ∧ (scrubbingFiring st c).su.scrubTimer = 9999 ∧
      (scrubbingFiring st c).su.scrubFailed = false ∧
      (scrubbingFiring st c).su.groupRec .a = ⟨.active, c, passing⟩ ∧ (scrubbingFiring st c).rcu.state = st ∧
      (scrubbingFiring st c).rcu.sync.valid = true ∧ (scrubbingFiring st c).sbi.blindFlag = false ∧
      ((scrubbingFiring st c).seq 0).state = .deadTime) ∧
    scrubMeets (scrubbingFiring .regulating 0) = true ∧
    (∃ c, groupCrc passing ≠ c) :=
  ⟨fun w c => ⟨⟨.a, w⟩, scrubbing w c, (scrubbing_due w c).1, (scrubbing_due w c).2.1, rfl, rfl, rfl, rfl, rfl, rfl, rfl,
      rfl⟩,
    ⟨_, rfl⟩, ⟨_, ne_succ _⟩,
    fun w c => ⟨⟨.a, ones⟩, ⟨.b, c, w, 1⟩, failedScrub w c, rest_of rfl rfl rfl, roomy_of rfl rfl,
      failedScrub_agrees w c, rfl, rfl, rfl, Nat.le_refl 1, rfl, rfl, rfl⟩,
    passing_passes,
    fun st c => ⟨rest_like (s0 := mayRun calm) rfl rfl rfl (by decide), roomy_of rfl rfl, rfl, rfl, rfl, rfl, rfl, rfl, rfl,
      rfl⟩, by decide +kernel,
    ⟨_, ne_succ _⟩⟩

/-- The calm device with a sequence in a state and a phase. -/
def seqAt (k : Fin 6) (st : SeqState) (p : Phase) (s : State) : State :=
  s.onSeq k fun q => { q with state := st, phase := p }

/-- Breaker 0 closing, breaker 1 tripping. -/
def operating : State := breakerAt 0 .travel .closing (breakerAt 1 .closed .tripping calm)

theorem witness_BreakerCommandsTripCloseAndClear :
    ((∃ (n : Byte) (b : Fin 7) (s : State), s.AtRest ∧ s.Roomy ∧ s.scu.work = .free ∧ n.toNat = b.val ∧ s.tripReady b) ∧
    (∃ (n : Byte) (b : Fin 7) (s : State), s.AtRest ∧ s.Roomy ∧ s.scu.work = .free ∧ n.toNat = b.val ∧
      s.isFitted b = true ∧ (s.breaker b).op = .closing ∧ (s.breaker b).position ≠ .opn) ∧
    (∃ (n : Byte) (b : Fin 7) (s : State), s.AtRest ∧ s.Roomy ∧ s.scu.work = .free ∧ n.toNat = b.val ∧
      s.isFitted b = true ∧ (s.breaker b).op = .closing ∧ (s.breaker b).position = .opn) ∧
    (∃ (n : Byte) (b : Fin 7) (s : State), s.AtRest ∧ s.Roomy ∧ s.scu.work = .free ∧ n.toNat = b.val ∧
      s.isFitted b = false) ∧
    (∃ (s : State) (k : Fin 6), s.AtRest ∧ s.Roomy ∧ s.scu.work = .free ∧ breakerOf k = 5 ∧
      (s.seq k).state = .lockout)) ∧
    (calm.AtRest ∧ calm.Roomy ∧ calm.scu.work = .free ∧ calm.isFitted (breakerOf 0) = true ∧ calm.breakerOpen 0 = false ∧
      (calm.breaker (breakerOf 0)).op ≠ .tripping ∧ (calm.seq 0).state ≠ .lockout ∧
      calm.isFitted (breakerOf 5) = false) ∧
    (operating.AtRest ∧ operating.Roomy ∧ operating.scu.work = .free ∧ operating.isFitted (breakerOf 0) = true ∧
      operating.breakerOpen 0 = false ∧ (operating.breaker (breakerOf 0)).op = .closing ∧
      operating.isFitted (breakerOf 1) = true ∧ operating.breakerOpen 1 = false ∧
      (operating.breaker (breakerOf 1)).op = .tripping) ∧
    (calm.AtRest ∧ calm.scu.work = .free) ∧
    (∃ s : State, s.AtRest ∧ s.scu.work = .free ∧ closeCheck s acBreaker = none) ∧
    (∃ s : State, s.AtRest ∧ s.Roomy ∧ s.scu.work = .free ∧ s.allOff 6 = false) ∧
    (∃ s : State, s.AtRest ∧ s.Roomy ∧ s.scu.work = .free ∧ s.allOff 0 = true ∧ (s.breaker 0).latches.any = true) :=
  ⟨⟨⟨6, 6, calm, rest_of rfl rfl rfl, roomy_of rfl rfl, rfl, rfl, by unfold State.tripReady; decide⟩,
    ⟨0, 0, breakerAt 0 .travel .closing calm, rest_by rfl rfl (by decide), roomy_of rfl rfl, rfl, rfl, by decide,
      by decide, by decide⟩,
    ⟨0, 0, breakerAt 0 .opn .closing calm, rest_by rfl rfl (by decide), roomy_of rfl rfl, rfl, rfl, by decide,
      by decide, by decide⟩,
    ⟨4, 4, calm, rest_of rfl rfl rfl, roomy_of rfl rfl, rfl, rfl, by decide⟩,
    ⟨seqAt 5 .lockout .none calm, 5, rest_of rfl rfl rfl, roomy_of rfl rfl, rfl, rfl, by decide⟩⟩,
    ⟨rest_of rfl rfl rfl, roomy_of rfl rfl, rfl, by decide, by decide, by decide, by decide, by decide⟩,
    ⟨rest_by rfl rfl (by decide), roomy_of rfl rfl, rfl, by decide, by decide, by decide, by decide, by decide, by decide⟩,
    ⟨⟨rest_of rfl rfl rfl, rfl⟩, ⟨breakerAt 6 .opn .none calm, rest_by rfl rfl (by decide), rfl, by decide⟩,
    ⟨calm.onDrive 19 fun d => { d with state := .check }, rest_by rfl rfl (by decide), roomy_of rfl rfl, rfl, by decide⟩,
    ⟨calm.onBreaker 0 fun r => { r with latches := ⟨true, false, false, true⟩ }, rest_by rfl rfl (by decide),
      roomy_of rfl rfl, rfl, by decide, by decide⟩⟩⟩

theorem witness_FeederBusSetpointAndCounterCommands :
    ((∃ (n : Byte) (k : Fin 6) (s : State), s.AtRest ∧ s.Roomy ∧ s.scu.work = .free ∧ n.toNat = k.val ∧
      s.inService k = true ∧ (s.seq k).state = .lockout) ∧
    (∃ (n : Byte) (k : Fin 6) (s : State), s.AtRest ∧ s.Roomy ∧ s.scu.work = .free ∧ n.toNat = k.val ∧
      s.inService k = false ∧ (s.seq k).state ≠ .lockout)) ∧
    ((calm.AtRest ∧ calm.scu.work = .free ∧ 15 < (16 : Byte).toNat) ∧
    (∃ s : State, s.AtRest ∧ s.scu.work = .free ∧ (bitOwner s.straps s.su.inUse 1 1).isSome = true) ∧
    (∃ (s t u : State) (inp : FrameInput), s.AtRest ∧ s.scu.work = .free ∧ bitOwner s.straps s.su.inUse 0 15 = none ∧
      exec (.setOutput 0 15 1) s = .next t ∧ s.su.verify = none ∧ s.su.scrubFailed = false ∧
      exec (.frame inp) t = .next u ∧ u.sbi.sync = .run ∧ s.sbi.map[30].kind = 3 ∧ s.sbi.map[30].target.toNat = 0)) ∧
    ((calm.AtRest ∧ calm.scu.work = .free ∧ (5 : Byte).toNat = (5 : Fin 6).val ∧ (1 : Byte).toNat ≤ 1) ∧
    (∃ (change : Word) (s : State), s.AtRest ∧ s.Roomy ∧ s.scu.work = .free ∧
      change.toInt ∈ ([5, 10, 20, -5, -10, -20] : List Int) ∧ s.su.inUse = none) ∧
    (∃ (change : Word) (s : State) (g : InUse), s.AtRest ∧ s.Roomy ∧ s.scu.work = .free ∧
      change.toInt ∈ ([5, 10, 20, -5, -10, -20] : List Int) ∧ s.su.inUse = some g ∧
      s.rect.uSetMin ≤ s.rect.uSetMax ∧ (s.rect.uSetMax : Int) < s.rcu.uset + change.toInt)) ∧
    (calm.AtRest ∧ calm.scu.work = .free ∧ (15 : Byte).toNat = (15 : Fin 16).val ∧
      (0xFFFFFFFFFF : BitVec 48).toNat < 2 ^ 40) :=
  ⟨⟨⟨0, 0, seqAt 0 .lockout .none calm, rest_of rfl rfl rfl, roomy_of rfl rfl, rfl, rfl, by decide, by decide⟩,
    ⟨5, 5, calm, rest_of rfl rfl rfl, roomy_of rfl rfl, rfl, rfl, by decide, by decide⟩⟩,
    ⟨⟨rest_of rfl rfl rfl, rfl, by decide⟩, ⟨inUse ones, rest_of rfl rfl rfl, rfl, by decide +kernel⟩,
    ⟨inSync .run, telegram (.setOutput 0 15 1) (inSync .run),
      frameWork (silence (.atPlace false)) (telegram (.setOutput 0 15 1) (inSync .run)), silence (.atPlace false),
      rest_of rfl rfl rfl, rfl, by decide, rfl, rfl, rfl, rfl, by decide +kernel, by decide, by decide⟩⟩,
    ⟨⟨rest_of rfl rfl rfl, rfl, by decide, by decide⟩,
    ⟨5, calm, rest_of rfl rfl rfl, roomy_of rfl rfl, rfl, by decide, rfl⟩,
    ⟨20, inUse ones, ⟨.a, ones⟩, rest_of rfl rfl rfl, roomy_of rfl rfl, rfl, by decide, rfl, by decide +kernel,
      by decide +kernel⟩⟩,
    ⟨rest_of rfl rfl rfl, rfl, by decide, by decide⟩⟩

/-- The calm device with the states of its two capture buffers. -/
def buffersAt (a b : BufState) : State :=
  (calm.onBuffer 0 fun x => { x with state := a, post := 1 }).onBuffer 1 fun x => { x with state := b }

theorem witness_RecordsAreTriggeredHeldAndReleased :
    (calm.AtRest ∧ calm.Roomy ∧ calm.scu.work = .free ∧ calm.eru.buffers[0].state = .capture ∧
      calm.eru.buffers[otherBuffer 0].state ≠ .capture) ∧
    (∃ s : State, s.AtRest ∧ s.Roomy ∧ s.scu.work = .free ∧ (∀ i : Fin 2, s.eru.buffers[i].state ≠ .capture) ∧
      s.eru.buffers[0].state = .post ∧ s.eru.buffers[0].post = 1 ∧ s.eru.buffers[0].decim = 0 ∧
      s.eru.buffers[0].write < 2048 ∧ s.eru.buffers[otherBuffer 0].state = .free) ∧
    (∃ s : State, s.AtRest ∧ s.Roomy ∧ s.eru.buffers[0].state = .post ∧ s.eru.buffers[0].post = 1 ∧
      s.eru.buffers[0].decim = 0 ∧ s.eru.buffers[0].write < 2048 ∧ s.eru.buffers[otherBuffer 0].state = .held) ∧
    (∃ s : State, s.AtRest ∧ s.Roomy ∧ s.scu.work = .free ∧
      (∀ i : Fin 2, s.eru.buffers[i].state ≠ .capture ∧ s.eru.buffers[i].state ≠ .post) ∧
      s.eru.buffers[0].state = .held ∧ s.eru.stopped = true) ∧
    (∃ s : State, s.AtRest ∧ s.scu.work = .free ∧ s.eru.buffers[1].state = .held ∧ s.eru.stopped = false) :=
  ⟨⟨rest_of rfl rfl rfl, roomy_of rfl rfl, rfl, by decide, by decide⟩,
    ⟨buffersAt .post .free, rest_of rfl rfl rfl, roomy_of rfl rfl, rfl, by decide, by decide, by decide, by decide,
      by decide, by decide⟩,
    ⟨buffersAt .post .held, rest_of rfl rfl rfl, roomy_of rfl rfl, by decide, by decide, by decide, by decide, by decide⟩,
    ⟨(buffersAt .held .held).onEru fun e => { e with stopped := true }, rest_of rfl rfl rfl, roomy_of rfl rfl, rfl,
      by decide, by decide, rfl⟩,
    ⟨buffersAt .capture .held, rest_of rfl rfl rfl, rfl, by decide, rfl⟩⟩

theorem witness_RestartRestartsEachBlock :
    ∃ s : State, s.AtRest ∧ s.Roomy ∧ s.scu.work = .free ∧ (s.breaker 0).op = .closing ∧ (s.breaker 1).op = .tripping ∧
      (s.seq 0).state = .closing ∧ s.rcu.state = .regulating :=
  ⟨(seqAt 0 .closing .closeEnergised (breakerAt 0 .opn .closing (breakerAt 1 .closed .tripping calm))).onRcu fun u =>
      { u with state := .regulating, pendingThy := some 0 },
    rest_by rfl rfl (by decide), roomy_of rfl rfl, rfl, by decide, by decide, by decide, rfl⟩

theorem witness_ScalingTruncatesTowardZero :
    ∃ (v : ChanView) (raw : Int), raw = -32767 ∧ v.offset = 32767 ∧ v.gain = 65535 ∧ (raw - v.offset) * v.gain < 0 :=
  ⟨⟨2, 65535, 32767, 1, 0, 0⟩, -32767, rfl, rfl, rfl, by decide⟩

theorem witness_ClampSaturatesAtTheLimit :
    (∃ v : ChanView, v.kind ≠ 0 ∧ 1 ≤ v.limit ∧ v.limit ≤ 65535 ∧ (scale v 1199).natAbs < v.limit ∧
      v.limit ≤ scale v 1200 ∧ scale v (-1200) ≤ -(v.limit : Int) ∧ scale v 0 = 0) :=
  ⟨⟨2, 4096, 0, 1200, 0, 0⟩, by decide, by decide, by decide, by decide, by decide, by decide, by decide⟩

theorem witness_ChannelCountsRunOut :
    (∃ s : State, s.AtRest ∧ (s.chan 1).kind ≠ 0 ∧ (s.chan 1).allowance ≤ 3 ∧ s.mu[1].hold = (s.chan 1).allowance) ∧
    (∃ s : State, s.AtRest ∧ s.mu[1].fill = 1 ∧ s.mu[1].blank = 0 ∧ (s.chan 1).delay < 8 ∧
      stageResult (s.chan 1) s.mu[1] (.present (5 : Word).toInt) = ⟨5, .valid⟩) ∧
    (∃ s : State, s.AtRest ∧ s.mu[31].blank = 1) :=
  ⟨⟨calm.onMu fun m => m.set 1 { m[1] with hold := 2 }, rest_of rfl rfl rfl, by decide, by decide, by decide⟩,
    ⟨calm, rest_of rfl rfl rfl, by decide, by decide, by decide, by decide⟩,
    ⟨calm.onMu fun m => m.set 31 { m[31] with blank := 1 }, rest_of rfl rfl rfl, by decide⟩⟩

theorem witness_FeederElementsTrip :
    (∃ s : State, s.AtRest ∧ s.Roomy ∧ s.inService 0 = true ∧ (s.feeder 0).ocTripped = false ∧
      s.currentOut 0 = ⟨(s.feederRec 0).iOc, .valid⟩ ∧ (s.feederRec 0).nOc = (s.feeder 0).ocCount + 1) ∧
    (∃ s : State, s.AtRest ∧ s.Roomy ∧ s.inService 5 = true ∧ (s.feederRec 5).full = true ∧ s.breakerOpen 5 = false ∧
      (s.feeder 5).rr = .rising ∧ (s.feeder 5).history[0] = sample 6 ∧
      ((s.feederRec 5).dISet : Int) ≤ 6 - (s.feeder 5).i0 ∧ (s.feederRec 5).tMin ≤ (s.feeder 5).rise + 1) ∧
    (∃ s : State, s.AtRest ∧ s.Roomy ∧ s.inService 0 = true ∧ (s.feederRec 0).full = true ∧
      (s.feeder 0).uvPicked = false ∧ s.voltageOut 0 = sample 0 ∧ 0 < (s.feederRec 0).uvLevel ∧
      (s.feederRec 0).uvTime ≤ (s.feeder 0).uvTimer + 1 ∧ (s.feederRec 0).uvTrip = true) ∧
    (∃ s : State, s.AtRest ∧ s.Roomy ∧ s.inService 0 = true ∧ (s.feederRec 0).full = true ∧
      (s.feeder 0).uvPicked = false ∧ s.voltageOut 0 = sample 0 ∧ 0 < (s.feederRec 0).uvLevel ∧
      (s.feederRec 0).uvTime ≤ (s.feeder 0).uvTimer + 1 ∧ (s.feederRec 0).uvTrip = false) :=
  ⟨⟨(reading 1 2000 calm).onFeeder 0 fun f => { f with ocCount := 1 }, rest_of rfl rfl rfl, roomy_of rfl rfl, by decide,
      by decide, by decide, by decide⟩,
    ⟨(inUse ones).onFeeder 5 fun f =>
        { f with rr := .rising, i0 := 5, history := #v[sample 6, sample 5, sample 5, sample 5, sample 5] },
      rest_of rfl rfl rfl, roomy_of rfl rfl, by decide +kernel, by decide, by decide, by decide, by decide,
      by decide +kernel, by decide +kernel⟩,
    ⟨reading 1 0 (inUse ones), rest_of rfl rfl rfl, roomy_of rfl rfl, by decide +kernel, by decide, by decide,
      by decide +kernel, by decide +kernel, by decide +kernel, by decide +kernel⟩,
    ⟨reading 1 0 (inUse (ones.set 209 0)), rest_of rfl rfl rfl, roomy_of rfl rfl, by decide +kernel, by decide, by decide,
      by decide +kernel, by decide +kernel, by decide +kernel, by decide +kernel⟩⟩

theorem witness_FeederCountsRunOut :
    (∃ s : State, s.AtRest ∧ s.Roomy ∧ s.inService 0 = true ∧ (s.feederRec 0).full = true ∧ s.breakerOpen 0 = false ∧
      (s.feeder 0).history[0] = sample 6 ∧ (s.feeder 0).rr = .rising ∧
      ¬ ((s.feederRec 0).dISet : Int) ≤ 6 - (s.feeder 0).i0 ∧ (s.feeder 0).endCount = 2 ∧
      rateOf (s.feeder 0).history = some 0 ∧ (0 : Int) < (s.feederRec 0).sHold) ∧
    (∃ s : State, s.AtRest ∧ s.Roomy ∧ s.inService 0 = true ∧ (s.feederRec 0).full = true ∧ s.breakerOpen 0 = false ∧
      (s.feeder 0).history[0] = sample 0 ∧ (s.feeder 0).rr = .tripped ∧ (s.feeder 0).resetCount = 9 ∧
      0 < (s.feederRec 0).iReset) ∧
    (∃ s : State, s.AtRest ∧ (s.feeder 0).closeBlock = 1) ∧
    (∃ s : State, s.AtRest ∧ s.su.holds[0] = ⟨true, 199⟩ ∧ s.breakerOpen 0 = true) :=
  ⟨⟨(inUse ones).onFeeder 0 fun f =>
        { f with rr := .rising, i0 := 6, endCount := 2
                 history := #v[sample 6, sample 6, sample 6, sample 6, sample 6] },
      rest_of rfl rfl rfl, roomy_of rfl rfl, by decide +kernel, by decide, by decide, by decide, by decide,
      by decide +kernel, by decide, by decide, by decide +kernel⟩,
    ⟨(inUse ones).onFeeder 0 fun f =>
        { f with rr := .tripped, resetCount := 9, history := #v[sample 0, sample 0, sample 0, sample 0, sample 0] },
      rest_of rfl rfl rfl, roomy_of rfl rfl, by decide +kernel, by decide, by decide, by decide, by decide, by decide,
      by decide +kernel⟩,
    ⟨calm.onFeeder 0 fun f => { f with closeBlock := 1 }, rest_of rfl rfl rfl, by decide⟩,
    ⟨(breakerAt 0 .opn .none calm).onSu fun u => { u with holds := u.holds.set 0 ⟨true, 199⟩ },
      rest_by rfl rfl (by decide), by decide, by decide⟩⟩

/-- The calm device at the end of a thermal block, with an image above the trip level of feeder 0. -/
def heated : State :=
  ((inUse ones).onFeeder 0 fun f => { f with theta := 300 }).onFpu fun u => { u with thermalCount := 99 }

theorem witness_ThermalBlockUpdatesEveryImage :
    heated.AtRest ∧ heated.Roomy ∧ heated.fpu.thermalCount = 99 ∧ (heated.feeder 0).thTripped = false ∧
      ((heated.feeder 0).thermal (heated.feederRec 0)).thTripped = true ∧
      (heated.matrixRow 2).trip.getLsbD 0 = true :=
  ⟨rest_of rfl rfl rfl, roomy_of rfl rfl, rfl, by decide, by decide +kernel, by decide +kernel⟩

/-- Contents of ones with feeder 1 fed by channel 3, and feeder 2 by channel 4 without delay. -/
def mixed : Contents := ((ones.set 217 3).set 241 4).set 28 0

/-- The frames that the statement about a feeder's elements speaks of: OC tripping and breaking off, UV picking up and
above its level, a thermal block ending, a close taken, a feeder out of service. -/
theorem witness_FrameRunsTheFeederElements : ∀ r ∈ ([
    ⟨alone [], running 5 allClosed ones, fun s t => s.inService 0 && (s.feederRec 0).full && t.currentOut 0 == sample 5 &&
      t.voltageOut 0 == sample 5 && (s.feederRec 0).iOc == 1 && (s.feederRec 0).uvLevel == 1 &&
      s.fpu.thermalCount == 0 && rowSeen s t 0 .oc && (s.matrixRow (feederRow 0 .oc)).trip.getLsbD 0⟩,
    ⟨alone [], ((running 0 allClosed ones).onFeeder 0 fun f => { f with theta := 300 }).onFpu fun u =>
      { u with thermalCount := 99 }, fun s t => s.inService 0 && t.currentOut 0 == sample 0 &&
      t.voltageOut 0 == sample 0 && rowSeen s t 0 .uv && s.fpu.thermalCount == 99 && rowSeen s t 0 .th⟩,
    ⟨steady [], seqAt 0 .closing .closeWait (standing feedersOpen),
      fun _ t => (t.breaker 0).op == .closing && (t.breaker 0).count == 0⟩,
    ⟨alone [], calm, fun s t => !s.inService 5 && !(s.feederRec 5).full && (t.voltageOut 5).quality == .invalid⟩]
    : List Row), r.Holds :=
  rows_hold (by decide +kernel) (by repeat first | exact trivial | refine ⟨fun _ => rfl, ?_⟩)

/-- The RR element of a feeder in a state, with its current of the last five frames. -/
def rising (k : Fin 6) (old : Int) (f : Feeder → Feeder) (s : State) : State :=
  s.onFeeder k fun x => f { x with history := Vector.replicate 5 (sample old) }

/-- A feeder in service, with its breaker OPEN or not, a current of a quality, and its RR element as left. -/
def risen (k : Fin 6) (opn : Bool) (q : Quality) (rr : RrState) (s t : State) : Bool :=
  s.inService k && (s.feederRec k).full && t.breakerOpen k == opn && (t.currentOut k).quality == q &&
    (t.feeder k).rr == rr

/-- The frames of the rate-of-rise element. In the first: a start, a rate too low, one held by the close block, a trip,
an end, OPEN. In the second: a reset count that grows and one that is reached, a rise that goes on. In the third: a
current above the reset level, INVALID and HELD. -/
theorem witness_FrameRunsTheRateOfRise : ∀ r ∈ ([
    ⟨alone [], rising 0 0 id (rising 1 5 id (rising 2 0 (fun f => { f with closeBlock := 1 })
      (rising 3 5 (fun f => { f with rr := .rising, i0 := 4 })
      (rising 4 5 (fun f => { f with rr := .rising, i0 := 5, rise := 1, endCount := 2 })
      (rising 5 5 (fun f => { f with rr := .tripped }) (running 5 (allClosed ^^^ 0xC00) ones)))))), fun s t =>
      risen 0 false .valid .rising s t && risen 1 false .valid .idle s t && risen 2 false .valid .idle s t &&
      risen 3 false .valid .tripped s t && risen 4 false .valid .idle s t && risen 5 true .valid .idle s t⟩,
    ⟨alone [], rising 0 0 (fun f => { f with rr := .tripped, resetCount := 8 })
      (rising 1 0 (fun f => { f with rr := .tripped, resetCount := 9 })
      (rising 2 0 (fun f => { f with rr := .rising, i0 := 0, rise := 1, endCount := 1 }) (running 0 allClosed ones))),
      fun s t => risen 0 false .valid .tripped s t && risen 1 false .valid .idle s t && risen 2 false .valid .rising s t⟩,
    ⟨alone [], rising 0 5 (fun f => { f with rr := .tripped }) (rising 1 5 (fun f => { f with rr := .rising })
      (rising 2 5 (fun f => { f with rr := .rising }) ((running 5 allClosed mixed).onMu fun m =>
        m.set 3 { m[3] with blank := 1 }))), fun s t =>
      risen 0 false .valid .tripped s t && risen 1 false .invalid .idle s t && risen 2 false .held .rising s t⟩]
    : List Row), r.Holds :=
  rows_hold (by decide +kernel) (by repeat first | exact trivial | refine ⟨fun _ => rfl, ?_⟩)

/-- The calm device with a drive channel in a state at a time. -/
def driveAt (c : Fin 20) (st : DriveState) (timer : Nat) (s : State) : State :=
  s.onDrive c fun d => { d with state := st, timer := timer }

theorem witness_CoilsPassThroughTheirStates :
    (∃ s : State, s.AtRest ∧ (s.drive 0).state = .peak ∧ s.coilBusy 0 = true) ∧
    (∃ s : State, s.AtRest ∧ (s.drive 0).state = .peak ∧ s.coilBusy 0 = false) ∧
    (∃ s : State, s.AtRest ∧ (s.drive 12).state = .peak ∧ coilKind 12 = .test ∧ (s.seq (channelFeeder 12)).phase = .starting) ∧
    (∃ s : State, s.AtRest ∧ (s.drive 12).state = .hold ∧ (s.drive 12).floorLow < 7) ∧
    (∃ s : State, s.AtRest ∧ s.Roomy ∧ (s.drive 19).state = .quench ∧ 5000 ≤ (s.drive 19).timer + 100) ∧
    (∃ s : State, s.AtRest ∧ s.Roomy ∧ (s.drive 19).state = .check ∧ (s.drive 19).timer < 20 ∧
      (s.drive 19).pulseSeen = true) ∧
    (∃ s : State, s.AtRest ∧ s.Roomy ∧ (s.drive 19).state = .check ∧ (s.drive 19).timer < 20 ∧
      (s.drive 19).pulseSeen = false) ∧
    (∃ s : State, s.AtRest ∧ s.Roomy ∧ (s.drive 0).state = .check ∧ 10000 ≤ (s.drive 0).timer + 100 ∧ 0 = tripChannel 0 ∧
      (s.breaker 0).op = .tripping ∧ (s.breaker 0).tbf * 10 ≤ (s.breaker 0).count) ∧
    (∃ s : State, s.AtRest ∧ s.Roomy ∧ (s.drive 19).cool = 1) :=
  ⟨⟨driveAt 0 .peak 5 (breakerAt 0 .closed .tripping calm), rest_by rfl rfl (by decide), by decide, by decide⟩,
    ⟨driveAt 0 .peak 5 calm, rest_by rfl rfl (by decide), by decide, by decide⟩,
    ⟨seqAt 0 .lineTest .starting (driveAt 12 .peak 5 calm), rest_by rfl rfl (by decide), by decide, by decide,
      by decide⟩,
    ⟨driveAt 12 .hold 5 calm, rest_by rfl rfl (by decide), by decide, by decide⟩,
    ⟨driveAt 19 .quench 4900 calm, rest_by rfl rfl (by decide), roomy_of rfl rfl, by decide, by decide⟩,
    ⟨(driveAt 19 .check 19 calm).onDrive 19 fun d => { d with pulseSeen := true }, rest_by rfl rfl (by decide),
      roomy_of rfl rfl, by decide, by decide, by decide⟩,
    ⟨driveAt 19 .check 19 calm, rest_by rfl rfl (by decide), roomy_of rfl rfl, by decide, by decide, by decide⟩,
    ⟨(driveAt 0 .check 9900 (breakerAt 0 .closed .tripping calm)).onBreaker 0 fun r => { r with count := 200 },
      rest_by rfl rfl (by decide), roomy_of rfl rfl, by decide, by decide, by decide, by decide, by decide⟩,
    ⟨calm.onDrive 19 fun d => { d with cool := 1 }, rest_by rfl rfl (by decide), roomy_of rfl rfl, by decide⟩⟩

/-- A feeder's close under way, requested by its sequence. -/
def closing (k : Fin 6) : State := seqAt k .closing .closeEnergised (breakerAt (breakerOf k) .opn .closing calm)

theorem witness_CoilFaultsAndHoldTimeouts :
    (∃ s : State, s.AtRest ∧ s.Roomy ∧ (s.drive 0).state = .peak ∧ (s.drive 0).tPeak * 1000 ≤ (s.drive 0).timer + 100 ∧
      coilKind 0 = .trip) ∧
    (∃ s : State, s.AtRest ∧ s.Roomy ∧ (s.drive 6).state = .peak ∧ (s.drive 6).tPeak * 1000 ≤ (s.drive 6).timer + 100 ∧
      coilKind 6 = .close ∧ (s.breaker (channelBreaker 6)).op = .closing ∧ (s.seq 0).state = .closing) ∧
    (∃ s : State, s.AtRest ∧ s.Roomy ∧ (s.drive 12).state = .hold ∧ (s.drive 12).floorLow = 7 ∧
      (s.drive 12).tHold * 1000 ≤ (s.drive 12).timer + 100 ∧ coilKind 12 = .test ∧
      (s.seq (channelFeeder 12)).state = .lineTest) ∧
    (∃ s : State, s.AtRest ∧ s.Roomy ∧ (s.drive 6).state = .hold ∧ (s.drive 6).floorLow = 7 ∧
      (s.drive 6).tHold * 1000 ≤ (s.drive 6).timer + 100 ∧ coilKind 6 = .close ∧
      (s.breaker (channelBreaker 6)).op = .closing ∧ breakerOf 0 = channelBreaker 6 ∧ (s.seq 0).state = .closing ∧
      (s.seq 0).phase = .closeEnergised) ∧
    (∃ s : State, s.AtRest ∧ s.Roomy ∧ (s.drive 18).state = .hold ∧ (s.drive 18).floorLow = 7 ∧
      (s.drive 18).tHold * 1000 ≤ (s.drive 18).timer + 100 ∧ coilKind 18 = .trip) ∧
    (∃ s : State, s.AtRest ∧ s.Roomy ∧ (s.drive 12).state = .peak ∧
      (s.drive 12).tPeak * 1000 ≤ (s.drive 12).timer + 100 ∧ coilKind 12 = .test ∧
      (s.seq (channelFeeder 12)).state = .lineTest) :=
  ⟨⟨driveAt 0 .peak 0 calm, rest_by rfl rfl (by decide), roomy_of rfl rfl, by decide, by decide, by decide⟩,
    ⟨driveAt 6 .peak 0 (closing 0), rest_by rfl rfl (by decide), roomy_of rfl rfl, by decide, by decide, by decide,
      by decide, by decide⟩,
    ⟨(driveAt 12 .hold 0 (seqAt 0 .lineTest .sum calm)).onDrive 12 fun d => { d with floorLow := 7 },
      rest_by rfl rfl (by decide), roomy_of rfl rfl, by decide, by decide, by decide, by decide, by decide⟩,
    ⟨(driveAt 6 .hold 0 (closing 0)).onDrive 6 fun d => { d with floorLow := 7 }, rest_by rfl rfl (by decide),
      roomy_of rfl rfl, by decide, by decide, by decide, by decide, by decide, by decide, by decide, by decide⟩,
    ⟨(driveAt 18 .hold 0 calm).onDrive 18 fun d => { d with floorLow := 7 }, rest_by rfl rfl (by decide), roomy_of rfl rfl,
      by decide, by decide, by decide, by decide⟩,
    ⟨driveAt 12 .peak 0 (seqAt 0 .lineTest .starting calm), rest_by rfl rfl (by decide), roomy_of rfl rfl, by decide,
      by decide, by decide, by decide⟩⟩

/-- Drive channels in each of their states. -/
def driving : State :=
  let d := fun st timer low => { Drive.powerOn with state := st, timer := timer, floorLow := low, dHold := 15, tHold := 200
                                                    tPeak := 20 }
  (breakerAt 0 .closed .tripping calm).onBdu fun u => { u with
    drives := (((((((((u.drives.set 0 (d .peak 5 0)).set 1 (d .peak 5 0)).set 2 (d .peak 5 0)).set 3 (d .peak 19999 0)).set 4
      (d .hold 6 7)).set 5 (d .hold 6 6)).set 6 (d .quench 4999 0)).set 7 (d .check 9999 0)).set 8 (d .check 19 0)) }

/-- A µs in which channels 0 and 1 show their peak and no floor comparator is high. -/
def peaks : Micro := ⟨3, 0⟩

/-- The µs and the frame that the statement about the drive channels speaks of. In the frame: a trip under way, one
begun by a row, a breaker left alone, a close taken, a test channel forbidden and one free. -/
theorem witness_FrameRunsTheDriveChannels :
    ([(DriveState.peak, peaks.peak.getLsbD 0 && driving.coilBusy 0), (.peak, peaks.peak.getLsbD 1 && !driving.coilBusy 1),
      (.peak, !peaks.peak.getLsbD 2), (.peak, !peaks.peak.getLsbD 3), (.hold, !peaks.floor.getLsbD 4), (.hold, true),
      (.quench, true), (.check, true), (.check, !peaks.floor.getLsbD 8), (.off, true)].zipIdx.all fun x =>
        (driving.drive (Fin.ofNat 20 x.2)).state == x.1.1 && x.1.2) = true ∧
    ([0, 1, 2, 3, 4, 5, 6, 7, 8].map fun c : Fin 20 => ((driving.drive c).timer, (driving.drive c).floorLow)) =
      [(5, 0), (5, 0), (5, 0), (19999, 0), (6, 7), (6, 6), (4999, 0), (9999, 0), (19, 0)] ∧
    ∀ r ∈ ([⟨bringing (fun c => if c = 5 then 2000 else 750) [peaks],
        seqAt 3 .closing .closeWait (breakerAt 0 .closed .tripping
          ((standing (allClosed ^^^ 0xC0)).onFeeder 2 fun f => { f with ocCount := 1 })), fun s t =>
        (s.breaker 0).op == .tripping && (s.breaker 1).op != .tripping && !(t.breaker 1).tripTaken &&
        (s.breaker 2).op != .tripping && (t.breaker 2).tripTaken && (t.breaker 3).op == .closing &&
        (t.breaker 3).count == 0 && !(t.breaker 3).tripTaken && !t.breakerOpen 1 && t.breakerOpen 3⟩] : List Row),
      r.Holds :=
  ⟨by decide +kernel, by decide,
    rows_hold (by decide +kernel) (by repeat first | exact trivial | refine ⟨fun _ => rfl, ?_⟩)⟩

/-- A trip of the AC breaker one frame before its failure check, with its BF latch and its trip channel as given. -/
def failing (bf off : Bool) : State :=
  (driveAt 18 (if off then .off else .hold) 0 (breakerAt 6 .closed .tripping calm)).onBreaker 6 fun r =>
    { r with count := 199, latches := { r.latches with bf := bf } }

theorem witness_BreakerFailureRaisesItsRowOnce (bf off : Bool) :
    (failing bf off).AtRest ∧ (failing bf off).Roomy ∧ ((failing bf off).breaker 6).op = .tripping ∧
      200 = ((failing bf off).breaker 6).count + 1 ∧ 200 = ((failing bf off).breaker 6).tbf * 10 ∧
      (((failing bf off).drive (tripChannel 6)).state = .off ↔ off = true) ∧
      ((failing bf off).breaker 6).latches.bf = bf := by
  cases bf <;> cases off <;>
    exact ⟨rest_by rfl rfl (by decide), roomy_of rfl rfl, by decide, by decide, by decide, by decide, by decide⟩

theorem witness_BreakerPositionsAndOperationEnds :
    (∃ (s t : State) (inp : FrameInput), exec (.frame inp) s = .next t ∧ s.scu.job = none ∧
      (s.breaker 0).op = .tripping ∧ (s.breaker 0).moved = true ∧ (t.breaker 0).position = .opn) ∧
    (∀ moved : Bool, ∃ s : State, (s.breaker 0).op = .tripping ∧ (s.breaker 0).position = .opn ∧
      (s.breaker 0).moved = moved) ∧
    (∃ s : State, (s.breaker 6).op = .closing ∧ (s.breaker 6).position = .closed) ∧
    (∃ s : State, (s.breaker 0).op = .none ∧ (s.breaker 0).wasFitted = s.isFitted 0 ∧
      (s.breaker 0).position ≠ .travel) :=
  ⟨⟨(breakerAt 0 .closed .tripping calm).onSbi fun b => { b with
        words := b.words.set 0 { b.words[0] with valid := true, agreed := 1 } }, _, silence .missing, rfl, rfl, by decide,
      by decide, by decide +kernel⟩,
    fun moved => ⟨calm.onBreaker 0 fun r => { r with op := .tripping, position := .opn, moved := moved },
      by cases moved <;> decide⟩,
    ⟨breakerAt 6 .closed .closing calm, by decide, by decide⟩,
    ⟨breakerAt 0 .opn .none calm, by decide, by decide, by decide⟩⟩

theorem witness_SequenceTimesRunOut :
    (∃ s : State, s.AtRest ∧ s.Roomy ∧ (s.seq 0).state = .deadTime ∧
      (s.recloseRec 0).dead (s.seq 0).attempts * 10 = (s.seq 0).timer + 1) ∧
    (∃ s : State, s.AtRest ∧ s.Roomy ∧ (s.seq 0).state = .reclaim ∧ s.breakerOpen 0 = false ∧
      (s.recloseRec 0).tReclaim * 10000 = (s.seq 0).timer + 1) ∧
    (∃ s : State, s.AtRest ∧ s.Roomy ∧ (s.seq 0).state = .precheck ∧ precheckCause s 0 = some .breakerNotOpen ∧
      (s.seq 0).precheck = 99999) :=
  ⟨⟨calm.onSeq 0 fun q => { q with state := .deadTime, timer := 49999 }, rest_of rfl rfl rfl, roomy_of rfl rfl, by decide,
      by decide⟩,
    ⟨calm.onSeq 0 fun q => { q with state := .reclaim, timer := 99999 }, rest_of rfl rfl rfl, roomy_of rfl rfl,
      by decide, by decide, by decide⟩,
    ⟨calm.onSeq 0 fun q => { q with state := .precheck, precheck := 99999 }, rest_of rfl rfl rfl, roomy_of rfl rfl,
      by decide, by decide, by decide⟩⟩

/-- Feeder 0 open behind a live busbar, with the cool-offs of its close and test channels. -/
def ready (cool : Nat) : State :=
  ((reading 13 750 (breakerAt 0 .opn .none calm)).onDrive 6 fun d => { d with cool := cool }).onDrive 12 fun d =>
    { d with cool := cool }

theorem witness_PassedPrecheckTestsOrCloses (live cool : Bool) :
    ∃ s : State, s.AtRest ∧ s.Roomy ∧ (s.seq 0).state = .precheck ∧ precheckCause s 0 = none ∧
      (s.seq 0).live = (if live then 100 else 0) ∧
      (s.driveRec (closeChannel (breakerOf 0))).enabled = true ∧ (s.breaker (breakerOf 0)).tripTaken = false ∧
      (s.driveRec (testChannel 0)).enabled = true ∧ (s.drive (closeChannel (breakerOf 0))).cool = cool.toNat ∧
      (s.drive (testChannel 0)).cool = cool.toNat := by
  cases live <;> cases cool
  · exact ⟨(ready 0).onSeq 0 fun q => { q with state := .precheck, live := 0 }, rest_by rfl rfl (by decide),
      roomy_of rfl rfl, rfl, by decide, rfl, by decide, by decide, by decide, by decide, by decide⟩
  · exact ⟨(ready 1).onSeq 0 fun q => { q with state := .precheck, live := 0 }, rest_by rfl rfl (by decide),
      roomy_of rfl rfl, rfl, by decide, rfl, by decide, by decide, by decide, by decide, by decide⟩
  · exact ⟨(ready 0).onSeq 0 fun q => { q with state := .precheck, live := 100 }, rest_by rfl rfl (by decide),
      roomy_of rfl rfl, rfl, by decide, rfl, by decide, by decide, by decide, by decide, by decide⟩
  · exact ⟨(ready 1).onSeq 0 fun q => { q with state := .precheck, live := 100 }, rest_by rfl rfl (by decide),
      roomy_of rfl rfl, rfl, by decide, rfl, by decide, by decide, by decide, by decide, by decide⟩

theorem witness_RequestsAreTakenWaitOrLockOut :
    (∃ s : State, s.AtRest ∧ s.Roomy ∧ (s.seq 0).state = .lineTest ∧ (s.seq 0).phase = .request ∧
      s.testDisturbed 0 = false ∧ testCheck s 0 = none) ∧
    (∃ s : State, s.AtRest ∧ s.Roomy ∧ (s.seq 0).state = .lineTest ∧ (s.seq 0).phase = .request ∧
      s.testDisturbed 0 = false ∧ testCheck s 0 = some .cooling) ∧
    (∃ s : State, s.AtRest ∧ s.Roomy ∧ (s.seq 0).state = .lineTest ∧ (s.seq 0).phase = .request ∧
      s.testDisturbed 0 = false ∧ testCheck s 0 = some .refusedState ∧ (s.drive (testChannel 0)).energised = false) ∧
    (∃ s : State, s.AtRest ∧ s.Roomy ∧ (s.seq 0).state = .closing ∧ (s.seq 0).phase = .closeWait ∧
      s.allOff (breakerOf 0) = true ∧ closeCheck s (breakerOf 0) = none) ∧
    (∃ s : State, s.AtRest ∧ s.Roomy ∧ (s.seq 0).state = .closing ∧ (s.seq 0).phase = .closeWait ∧
      s.allOff (breakerOf 0) = true ∧ closeCheck s (breakerOf 0) = some .cooling) ∧
    (∃ s : State, s.AtRest ∧ s.Roomy ∧ (s.seq 0).state = .closing ∧ (s.seq 0).phase = .closeWait ∧
      s.allOff (breakerOf 0) = true ∧ closeCheck s (breakerOf 0) = some .refusedState) :=
  ⟨⟨seqAt 0 .lineTest .request (ready 0), rest_by rfl rfl (by decide), roomy_of rfl rfl, by decide, by decide, by decide,
      by decide⟩,
    ⟨seqAt 0 .lineTest .request (ready 1), rest_by rfl rfl (by decide), roomy_of rfl rfl, by decide, by decide, by decide,
      by decide⟩,
    ⟨seqAt 0 .lineTest .request (reading 13 750 calm), rest_of rfl rfl rfl, roomy_of rfl rfl, by decide, by decide,
      by decide, by decide, by decide⟩,
    ⟨seqAt 0 .closing .closeWait (ready 0), rest_by rfl rfl (by decide), roomy_of rfl rfl, by decide, by decide,
      by decide, by decide⟩,
    ⟨seqAt 0 .closing .closeWait (ready 1), rest_by rfl rfl (by decide), roomy_of rfl rfl, by decide, by decide,
      by decide, by decide⟩,
    ⟨seqAt 0 .closing .closeWait (reading 13 750 calm), rest_of rfl rfl rfl, roomy_of rfl rfl, by decide, by decide,
      by decide, by decide⟩⟩

/-- A line test of feeder 0 one frame short of its sums, with the channels that it reads. -/
def summing (samples : Nat) (s : State) : State :=
  s.onSeq 0 fun q => { q with state := .lineTest, phase := .sum, samples := samples }

theorem witness_LineTestSettlesSumsAndDecides :
    (∃ s : State, s.AtRest ∧ s.Roomy ∧ (s.seq 0).state = .lineTest ∧ s.testDisturbed 0 = false ∧
      (s.seq 0).phase = .settle ∧ (s.recloseRec 0).tSettle = (s.seq 0).timer + 1) ∧
    (∃ s : State, s.AtRest ∧ s.Roomy ∧ (s.seq 0).state = .lineTest ∧ s.testDisturbed 0 = false ∧
      (s.seq 0).phase = .sum ∧ s.summable 0 = true ∧ (s.recloseRec 0).nAvg = (s.seq 0).samples + 1 ∧
      lineResistance (s.recloseRec 0) ((s.seq 0).sumU + (s.voltageOut 0).value)
        ((s.seq 0).sumI + (s.currentOut 0).value) = 4000000) ∧
    (∃ s : State, s.AtRest ∧ s.Roomy ∧ (s.seq 0).state = .lineTest ∧ s.testDisturbed 0 = false ∧
      (s.seq 0).phase = .sum ∧ s.summable 0 = true ∧ (s.recloseRec 0).nAvg = (s.seq 0).samples + 1 ∧
      (s.recloseRec 0).attempts = (s.seq 0).attempts ∧
      lineResistance (s.recloseRec 0) ((s.seq 0).sumU + (s.voltageOut 0).value)
        ((s.seq 0).sumI + (s.currentOut 0).value) = 0) ∧
    (∃ s : State, s.AtRest ∧ s.Roomy ∧ (s.seq 0).state = .lineTest ∧ s.testDisturbed 0 = false ∧
      (s.seq 0).phase = .sum ∧ s.summable 0 = true ∧ (s.recloseRec 0).nAvg = (s.seq 0).samples + 1 ∧
      (s.seq 0).attempts < (s.recloseRec 0).attempts ∧
      lineResistance (s.recloseRec 0) ((s.seq 0).sumU + (s.voltageOut 0).value)
        ((s.seq 0).sumI + (s.currentOut 0).value) < (s.recloseRec 0).rMin) :=
  ⟨⟨(reading 13 750 calm).onSeq 0 fun q => { q with state := .lineTest, phase := .settle, timer := 99 },
      rest_of rfl rfl rfl, roomy_of rfl rfl, by decide, by decide, by decide, by decide⟩,
    ⟨summing 15 (reading 2 750 (reading 1 0 (reading 13 750 calm))), rest_of rfl rfl rfl, roomy_of rfl rfl, by decide,
      by decide, by decide, by decide, by decide, by decide⟩,
    ⟨summing 15 (reading 2 0 (reading 1 800 (reading 13 750 calm))), rest_of rfl rfl rfl, roomy_of rfl rfl, by decide,
      by decide, by decide, by decide, by decide, by decide, by decide⟩,
    ⟨summing 0 (reading 1 750 (inUse ones)), rest_of rfl rfl rfl, roomy_of rfl rfl, by decide, by decide +kernel,
      by decide, by decide +kernel, by decide +kernel, by decide +kernel, by decide +kernel⟩⟩

/-- A breaker with its BF latch set. -/
def latched (b : Fin 7) (s : State) : State := s.onBreaker b fun r => { r with latches := { r.latches with bf := true } }

/-- A drive channel that has to cool off for 5 frames. -/
def cooling (c : Fin 20) (s : State) : State := s.onDrive c fun d => { d with cool := 5 }

/-- A close under way that the sequence of the feeder waits for, the breaker at a position. -/
def closingFrom (k : Fin 6) (p : Position) (s : State) : State :=
  seqAt k .closing .closeEnergised (breakerAt (breakerOf k) p .closing s)

/-- A sequence in a state, with its timer. -/
def seqTimed (k : Fin 6) (st : SeqState) (timer : Nat) (s : State) : State :=
  s.onSeq k fun q => { q with state := st, timer := timer }

/-- A sequence in PRECHECK with a live count, and the cool-offs of its close and test channels. -/
def checking (k : Fin 6) (live cool : Nat) (s : State) : State :=
  ((s.onSeq k fun q => { q with state := .precheck, live := live }).onDrive (closeChannel (breakerOf k)) fun d =>
    { d with cool := cool }).onDrive (testChannel k) fun d => { d with cool := cool }

/-- Every condition of the pre-check is met in the frame, with the counts of the bank as before it. -/
def allMet (k : Fin 6) (s t : State) : Bool := (precheckConditions { t with cb := s.cb } k).all Prod.fst

/-- The frames of a sequence outside a test and a close: LOCKOUT, IDLE, RECLAIM and DEAD_TIME short of their times; an
OPEN breaker in RECLAIM, both times reached, a failing pre-check; a latched one at its limit, met pre-checks with and
without a live line, and one whose request has energised its contactor; starts with and without an attempt left. -/
theorem witness_FrameWorksTheSequences : ∀ r ∈ ([
    ⟨steady [], seqTimed 0 .lockout 0 (seqTimed 2 .reclaim 0 (seqTimed 3 .deadTime 0 (standing allClosed))),
      fun s t => (s.seq 0).state == .lockout && (s.seq 1).state == .idle && !startSeen s t 1 &&
        (s.seq 2).state == .reclaim && !startSeen s t 2 && !t.breakerOpen 2 && (s.seq 3).state == .deadTime⟩,
    ⟨steady [], seqTimed 0 .reclaim 0 (seqTimed 1 .reclaim 99999 (seqTimed 2 .deadTime 49999
        (seqTimed 3 .precheck 0 (standing (allClosed ^^^ 3))))), fun s t =>
        t.breakerOpen 0 && !startSeen s t 0 && !t.breakerOpen 1 && (s.recloseRec 1).tReclaim * 10000 == 100000 &&
        (s.recloseRec 2).dead 0 * 10 == 50000 && !t.breakerOpen 3⟩,
    ⟨steady [], (checking 0 100 5 (checking 1 0 5 (checking 2 0 0 (checking 3 0 0
        (latched 3 (standing feedersOpen)))))).onSeq 3 fun q => { q with precheck := 99999 }, fun s t =>
        allMet 0 s t && (t.seq 0).live == 100 && allMet 1 s t && (t.seq 1).live == 1 && !t.allOff 2 && (t.breaker 3).latches.any && (s.seq 3).precheck == 99999⟩,
    ⟨alone [], (running 5 allClosed ones).onSeq 1 fun q => { q with state := .reclaim, attempts := 1 }, fun s t =>
        startSeen s t 0 && (s.seq 0).attempts == 0 && startSeen s t 1 && (s.seq 1).attempts == 1 &&
        (s.recloseRec 0).attempts == 1⟩] : List Row), r.Holds :=
  rows_hold (by decide +kernel) (by repeat first | exact trivial | refine ⟨fun _ => rfl, ?_⟩)

/-- The frame neither interrupts the line test of a feeder nor ends it. -/
def testGoesOn (inp : FrameInput) (k : Fin 6) (s t : State) : Bool := !testCut s t k && !testEnds inp s t k

/-- A frame with feeder 2 above its overcurrent level and without a current of feeder 3. -/
def disturbed : FrameInput := bringing (fun c => if c = 5 then 2000 else if c = 7 then 0x8000 else 750) [peaks]

/-- The frames of a test and a close. An interruption. A request taken, an end, a request that cools and one refused.
STARTING that settles, SETTLE, SUM that goes on and is complete. CLOSE_WAIT not OFF, taken, cooling and refused.
CLOSE_ENERGISED failed, cut, and going on; CLOSED; SUM on an INVALID current. -/
theorem witness_FrameWorksTestsAndCloses : ∀ r ∈ ([
    ⟨bringing (fun _ => 300) [], seqAt 0 .lineTest .sum (standing feedersOpen), fun s t =>
      testCut s t 0 && !testEnds (bringing (fun _ => 300) []) s t 0⟩,
    ⟨steady [], seqAt 0 .lineTest .request (seqAt 1 .lineTest .sum (driveAt 13 .hold 0 (seqAt 2 .lineTest .request
        (seqAt 3 .lineTest .request (driveAt 9 .check 0 (cooling 14 (standing (feedersOpen ^^^ 0xC)))))))), fun s t =>
      testGoesOn (steady []) 0 s t && (s.driveRec 12).enabled && t.breakerOpen 0 && (s.drive 12).cool == 0 &&
      testEnds (steady []) s t 1 && !testCut s t 1 && testGoesOn (steady []) 2 s t && (s.drive 14).cool == 5 &&
      testGoesOn (steady []) 3 s t && ((s.afterMicros (steady [])).drive 9).state == .check⟩,
    ⟨steady [⟨0x1000, 0⟩], driveAt 12 .peak 5 (seqAt 0 .lineTest .starting (seqAt 1 .lineTest .settle (seqAt 2 .lineTest .sum
        ((standing feedersOpen).onSeq 3 fun q => { q with state := .lineTest, phase := .sum, samples := 15 })))), fun s t =>
      testGoesOn (steady [⟨0x1000, 0⟩]) 0 s t && (s.drive 12).state == .peak &&
      ((s.afterMicros (steady [⟨0x1000, 0⟩])).drive 12).state == .hold && testGoesOn (steady [⟨0x1000, 0⟩]) 1 s t &&
      testGoesOn (steady [⟨0x1000, 0⟩]) 2 s t && (t.voltageOut 2).quality == .valid && (t.currentOut 2).quality == .valid &&
      testGoesOn (steady [⟨0x1000, 0⟩]) 3 s t && (s.recloseRec 3).nAvg == 16 && (t.currentOut 3).quality == .valid⟩,
    ⟨steady [], driveAt 0 .check 0 (seqAt 0 .closing .closeWait (seqAt 1 .closing .closeWait (seqAt 2 .closing .closeWait
        (seqAt 3 .closing .closeWait (latched 3 (cooling 8 (standing feedersOpen))))))), fun s t =>
      !(s.afterMicros (steady [])).allOff 0 && (s.afterMicros (steady [])).allOff 1 && (s.driveRec 7).enabled &&
      s.inService 1 && (s.drive 7).cool == 0 && !(t.breaker 1).latches.any && t.breakerOpen 1 && t.noElementTripped 1 &&
      (t.feeder 1).permit && !(t.feeder 1).intertrip && !(t.breaker 1).tripTaken && (t.drive 1).state == .off &&
      (s.afterMicros (steady [])).allOff 2 && (s.drive 8).cool == 5 && (s.afterMicros (steady [])).allOff 3 &&
      (t.drive 3).state == .off && (s.drive 9).cool == 0 && (t.breaker 3).latches.any⟩,
    ⟨disturbed, (closingFrom 0 .opn (closingFrom 1 .opn (closingFrom 2 .opn (seqAt 3 .lineTest .sum
        (standing feedersOpen))))).onDrive 7 (fun d => { d with state := .peak, timer := 19999, tPeak := 20 })
        |>.onFeeder 2 fun f => { f with ocCount := 1 }, fun s t =>
      ((s.drive 7).energised && !((s.afterMicros disturbed).drive 7).energised) && (s.breaker 1).op == .closing &&
      (s.breaker 2).op == .closing && (t.breaker 2).tripTaken && s.isFitted 2 && !(s.drive 8).energised &&
      (s.breaker 0).op == .closing && !(t.breaker 0).tripTaken && (t.breaker 0).position != .closed &&
      testGoesOn disturbed 3 s t && (t.currentOut 3).quality == .invalid⟩,
    ⟨steady [], closingFrom 0 .travel (seqAt 1 .closing .closeEnergised (standing allClosed)), fun s t =>
      (s.breaker 0).op == .closing && !(s.drive 6).energised &&
      !(t.breaker 0).tripTaken && (t.breaker 0).position == .closed && (s.breaker 1).op != .closing⟩]
    : List Row), r.Holds :=
  rows_hold (by decide +kernel) (by repeat first | exact trivial | refine ⟨fun _ => rfl, ?_⟩)

theorem witness_SyncIsAcquiredAndLost :
    (∃ s : State, s.AtRest ∧ s.rcu.sync.valid = false ∧ s.rcu.sync.acq = 3 ∧ s.rcu.sync.lastCross = some 0 ∧
      4 * 22222 ≤ 5 * s.rcu.sync.period) ∧
    (∃ s : State, s.AtRest ∧ s.rcu.sync.ref + s.rcu.sync.period = s.timer + 100 ∧ 1 ≤ s.rcu.sync.period) ∧
    (∃ s : State, s.AtRest ∧ s.Roomy ∧ s.rcu.sync.valid = true ∧ s.rcu.sync.lastCross = some 0 ∧ s.rcu.sync.missed = 0 ∧
      5 * s.rcu.sync.period < 4 * (s.timer - 0) ∧ 4 * (s.timer - 0) = 9 * s.rcu.sync.period ∧ s.rcu.state = .blocked) ∧
    (∃ s : State, s.AtRest ∧ s.Roomy ∧ s.rcu.sync.valid = true ∧ s.rcu.sync.lastCross = some 0 ∧ s.rcu.sync.missed = 1 ∧
      9 * s.rcu.sync.period < 4 * (s.timer - 0) ∧ s.rcu.state = .fixed) ∧
    (∃ s : State, s.AtRest ∧ s.Roomy ∧ s.rcu.sync.valid = true ∧ s.rcu.sync.lastCross = some 0 ∧ s.rcu.sync.missed = 1 ∧
      9 * s.rcu.sync.period < 4 * (s.timer - 0) ∧ s.rcu.state = .blocked) :=
  ⟨⟨calm.onSync fun y => { y with acq := 3, lastCross := some 0 }, rest_of rfl rfl rfl, rfl, rfl, rfl, by decide⟩,
    ⟨{ calm with timer := 19900 }, rest_of rfl rfl rfl, by decide, by decide⟩,
    ⟨{ calm with timer := 45000 }.onSync fun y => { y with valid := true, lastCross := some 0 }, rest_of rfl rfl rfl,
      roomy_of rfl rfl, rfl, rfl, rfl, by decide, by decide, rfl⟩,
    ⟨({ calm with timer := 45001 }.onSync fun y => { y with valid := true, missed := 1, lastCross := some 0 }).onRcu
        fun u => { u with state := .fixed, pendingThy := some 3 }, rest_of rfl rfl rfl, roomy_of rfl rfl, rfl, rfl, rfl,
      by decide, rfl⟩,
    ⟨{ calm with timer := 45001 }.onSync fun y => { y with valid := true, missed := 1, lastCross := some 0 },
      rest_of rfl rfl rfl, roomy_of rfl rfl, rfl, rfl, rfl, by decide, rfl⟩⟩

/-- The device in RUN at a time, with its sync as given and the channels whose last output was negative. -/
def tracking (at_ : Nat) (f : Sync → Sync) (cs : List (Fin 32)) : State :=
  cs.foldl (fun s c => reading c (-5) s) ({ standing allClosed with timer := at_, stamp := at_ }.onSync f)

/-- The crossings that a frame of `tracking` sees, all at its start. -/
def crossed (t : State) (c1 c2 c3 : Option Nat) : Bool :=
  crossingOf t t.rect.sync1 == c1 && crossingOf t t.rect.sync2 == c2 && crossingOf t t.rect.sync3 == c3

/-- A VALID sync whose last crossing was at 0. -/
def soundSync (y : Sync) : Sync := { y with valid := true, lastCross := some 0 }

/-- The frames of the phase tracking, at times after the last crossing that lie on the bounds of the statement. Without
a crossing: LOST, VALID with one and with two missed. With one of channel 1: the first, one too late, one after a miss,
one that keeps the sync VALID, one that acquires it and one that counts, one out of range in VALID and in LOST. With one
of channel 2 or 3: a LOST sync, inside the window and outside it, after no fault and after one. Blocking: with a cause
and without one, from BLOCKED and from FIXED. -/
theorem witness_FrameTracksTheSyncAndBlocks : ∀ r ∈ ([
    ⟨steady [], tracking 45000 id [], fun s t => crossed t none none none && !s.rcu.sync.valid &&
      s.rcu.state == .blocked && t.busOut.quality == .valid⟩,
    ⟨steady [], tracking 45000 soundSync [], fun s t => crossed t none none none && s.rcu.sync.valid &&
      s.rcu.sync.period == 20000 && t.stamp == 45000⟩,
    ⟨steady [], tracking 45001 soundSync [], fun _ t => crossed t none none none && t.stamp == 45001⟩,
    ⟨steady [], tracking 7 id [16], fun s t => crossed t (some 7) none none && s.rcu.sync.lastCross.isNone⟩,
    ⟨steady [], tracking 45001 soundSync [16], fun _ t => crossed t (some 45001) none none⟩,
    ⟨steady [], tracking 25001 soundSync [16], fun _ t => crossed t (some 25001) none none⟩,
    ⟨steady [], tracking 22222 soundSync [16], fun _ t => crossed t (some 22222) none none⟩,
    ⟨steady [], tracking 15385 (fun y => { y with acq := 3, lastCross := some 0 }) [16], fun s t =>
      crossed t (some 15385) none none && !s.rcu.sync.valid⟩,
    ⟨steady [], tracking 15385 (fun y => { y with acq := 2, lastCross := some 0 }) [16], fun s t =>
      crossed t (some 15385) none none && !s.rcu.sync.valid⟩,
    ⟨steady [], tracking 22223 soundSync [16], fun _ t => crossed t (some 22223) none none⟩,
    ⟨steady [], tracking 15384 (fun y => { y with acq := 2, lastCross := some 0 }) [16], fun _ t =>
      crossed t (some 15384) none none⟩,
    ⟨steady [], tracking 5834 (fun y => y) [17], fun s t => crossed t none (some 5834) none && !s.rcu.sync.valid⟩,
    ⟨steady [], tracking 5834 soundSync [17], fun _ t => crossed t none (some 5834) none && t.rcu.sync.ref == 0 &&
      5834 * 3600 / t.rcu.sync.period == 1050⟩,
    ⟨steady [], tracking 5833 (fun y => { soundSync y with seqFault := 1 }) [17], fun _ t =>
      crossed t none (some 5833) none && t.rcu.sync.ref == 0 && 5833 * 3600 / t.rcu.sync.period == 1049⟩,
    ⟨steady [], tracking 14172 soundSync [18], fun _ t => crossed t none none (some 14172) && t.rcu.sync.ref == 0 &&
      14172 * 3600 / t.rcu.sync.period == 2550⟩,
    ⟨steady [], tracking 14173 soundSync [18], fun _ t => crossed t none none (some 14173) && t.rcu.sync.ref == 0 &&
      14173 * 3600 / t.rcu.sync.period == 2551⟩,
    ⟨steady [], (tracking 7 soundSync []).onRcu fun u => { u with state := .fixed, pendingThy := some 0 }, fun s t =>
      s.rcu.state != .blocked && t.rcu.sync.valid && (t.breaker 6).position == .closed && t.busOut.quality == .valid⟩,
    ⟨steady [], (tracking 7 id []).onRcu fun u => { u with state := .fixed, pendingThy := some 0 }, fun s t =>
      s.rcu.state != .blocked && !t.rcu.sync.valid⟩,
    ⟨steady [], (tracking 7 soundSync []).onSu fun u => { u with reason := .scrub }, fun s t => s.rcu.state == .blocked &&
      t.rcu.sync.valid && (t.breaker 6).position == .closed && t.busOut.quality == .valid && s.su.reason == .scrub⟩]
    : List Row), r.Holds :=
  rows_hold (by decide +kernel) (by repeat first | exact trivial | refine ⟨fun _ => rfl, ?_⟩)

/-- The calm device with thyristor 11 due to fire and the rectifier in a state. -/
def firing (st : RcuState) : State := calm.onRcu fun u => { u with state := st, pendingThy := some 11, point := 0 }

theorem witness_FiringAndGatePulses :
    (∀ st, (firing st).AtRest ∧ (firing st).rcu.pendingThy = some 11 ∧ (firing st).rcu.state = st ∧
      (∃ j ≤ 100, firesWhen (firing st) ((firing st).timer + j) = true) ∧
      (firing st).rcu.alpha ≤ 0 + (firing st).rect.dAlphaSoft ∧ (firing st).rcu.calcAlpha = 0 ∧
      (firing st).rect.aMin = 0 ∧ (firing st).rect.aMax = 0 ∧ (firing st).rcu.alpha = 0) ∧
    (∃ s : State, s.AtRest ∧ s.rcu.state = .softStart ∧ s.rcu.pendingThy = some 0 ∧
      s.rcu.calcAlpha + s.rect.dAlphaSoft < s.rcu.alpha ∧ s.rect.aMin = s.rcu.calcAlpha ∧
      s.rect.aMax = s.rcu.calcAlpha ∧ ∃ j ≤ 100, firesWhen s (s.timer + j) = true) ∧
    (∃ s : State, s.AtRest ∧ s.gateOutput 11 = true ∧ s.rcu.pulses[11] ≤ s.timer + 100) :=
  ⟨fun st => ⟨rest_of rfl rfl rfl, rfl, rfl, ⟨0, by decide, by cases st <;> decide⟩, by cases st <;> decide, rfl, rfl,
      rfl, rfl⟩,
    ⟨(firing .softStart).onRcu fun u => { u with alpha := 900, pendingThy := some 0 }, rest_of rfl rfl rfl, rfl, rfl,
      by decide, rfl, rfl, 0, by decide, by decide⟩,
    ⟨calm.onRcu fun u => { u with pulses := u.pulses.set 11 100 }, rest_of rfl rfl rfl, by decide, by decide⟩⟩

theorem witness_RectifierRunsAndEndsPhaseBack :
    (∃ (s : State) (g : InUse), s.AtRest ∧ s.Roomy ∧ s.rcu.state = .blocked ∧ s.rcu.sync.valid = true ∧
      (s.breaker 6).position = .closed ∧ s.busOut.quality = .valid ∧ s.su.inUse = some g ∧
      ∀ n, forward (firingPoint n s.rect.aMax) s.phaseCounter ≠ 0) ∧
    (∃ s : State, s.AtRest ∧ s.Roomy ∧ s.rcu.state = .blocked ∧ s.rcu.sync.valid = true ∧
      (s.breaker 6).position = .closed ∧ s.busOut.quality = .valid ∧ s.su.inUse = none ∧ s.su.reason = .scrub ∧
      ∀ n, forward (firingPoint n (fallbackAlpha s.straps)) s.phaseCounter ≠ 0) ∧
    (∃ s : State, s.AtRest ∧ s.Roomy ∧ s.rcu.state = .blocked ∧ s.rcu.sync.valid = true ∧
      (s.breaker 6).position = .closed ∧ s.busOut.quality = .valid ∧ s.su.inUse = none ∧ s.su.reason = .powerOn) ∧
    (∃ s : State, s.AtRest ∧ s.Roomy ∧ s.rcu.state = .phaseBack ∧ s.rcu.blockTimer = 0) :=
  ⟨⟨{ mayRun (inUse ones) with timer := 0 }, ⟨.a, ones⟩, rest_by rfl rfl (by decide), roomy_of rfl rfl, rfl, rfl,
      by decide, by decide +kernel, rfl, by decide +kernel⟩,
    ⟨(mayRun calm).onSu fun u => { u with reason := .scrub }, rest_by rfl rfl (by decide), roomy_of rfl rfl, rfl, rfl,
      by decide, by decide, rfl, rfl, by decide⟩,
    ⟨mayRun calm, rest_by rfl rfl (by decide), roomy_of rfl rfl, rfl, rfl, by decide, by decide, rfl, rfl⟩,
    ⟨calm.onRcu fun u => { u with state := .phaseBack, pendingThy := some 0 }, rest_of rfl rfl rfl, roomy_of rfl rfl, rfl,
      rfl⟩⟩

/-- Contents in which channel 0 measures with a hold of 1, the AC breaker is fitted, and no row names a breaker. -/
def sparse : Contents :=
  ((((((Vector.replicate 870 0).set 0 2).set 3 1).set 5 1).set 748 1).set 770 1).set 778 1

/-- The device under group A in HOLDOVER, regulating. -/
def regulating : State :=
  ((running 0 0x2000 sparse).onSync fun y => { y with valid := true }).onRcu fun u =>
    { u with state := .regulating, pendingThy := some 0 }

theorem witness_RegulationFollowsTheFiringLaw :
    (∃ s t inp, s.scu.job = none ∧ exec (.frame inp) s = .next t ∧ t.rcu.state = .regulating) ∧
    (∃ s t inp, s.scu.job = none ∧ exec (.frame inp) s = .next t ∧ t.rcu.state = .blocked) :=
  ⟨⟨regulating, _, silence .missing, rfl, rfl, by decide +kernel⟩, ⟨calm, _, silence .missing, rfl, rfl, by decide +kernel⟩⟩

theorem witness_OverloadOvervoltageAndChopper :
    (∃ s : State, s.AtRest ∧ s.Roomy ∧ s.iRectUsable = true ∧ (s.rect.iOvl : Int) = s.iRect ∧
      s.rect.tOvl = s.rcu.ovl.count + 1 ∧ s.rcu.ovl.raised = false ∧ s.rcu.ovl.pickup = false) ∧
    (∃ s : State, s.AtRest ∧ s.Roomy ∧ s.busOut.quality ≠ .invalid ∧ (s.rect.uOvp : Int) = s.uBus ∧
      (s.rect.uChOff : Int) ≤ s.uBus ∧ s.rect.tOvp = s.rcu.ovp.count + 1 ∧ s.rcu.ovp.raised = false ∧
      s.rcu.ovp.pickup = false) ∧
    (∃ s : State, s.AtRest ∧ s.Roomy ∧ s.rcu.chopper.blockCount = 99 ∧ s.rcu.chopper.gate = true) :=
  ⟨⟨(reading 14 6000 (reading 15 0 calm)).onRcu fun u => { u with ovl := ⟨49999, false, false⟩ }, rest_of rfl rfl rfl,
      roomy_of rfl rfl, by decide, by decide, by decide, by decide, by decide⟩,
    ⟨(reading 13 1000 calm).onRcu fun u => { u with ovp := ⟨49, false, false⟩ }, rest_of rfl rfl rfl, roomy_of rfl rfl,
      by decide, by decide, by decide, by decide, by decide, by decide⟩,
    ⟨calm.onRcu fun u => { u with chopper := ⟨true, 5, false, 99⟩ }, rest_of rfl rfl rfl, roomy_of rfl rfl, rfl, rfl⟩⟩

/-- The calm device with counter 0 counting TRIP events of the device and its feeders, with an overflow action. -/
def counting (action : Word) : State :=
  calm.onCb fun c => { c with
    programme := ((((c.programme.set 0 1).set 1 5).set 2 127).set 7 action).set 8 2
    counters := c.counters.set 0 { c.counters[0] with value := 2 ^ 40 - 1 } }

/-- A TRIP event of the bus. -/
def tripOfBus : EventMsg := ⟨.bus, 0, .trip, 0, some 1000⟩

/-- The state of 10, worked example: counter 4 counts the duty of breaker 2. -/
def opening : State :=
  calm.onCb fun c => { c with
    programme := (((((c.programme.set 36 3).set 37 4).set 38 4).set 39 2).set 42 4).set 43 4
    counters := c.counters.set 4 { c.counters[4] with value := 2 ^ 40 - 5000 }
    duty := c.duty.set 2 2330 }

theorem witness_EventsAreCounted :
    (∀ action : Fin 5, tripOfBus.code ≠ .opened ∧
      (counting (BitVec.ofNat 16 action.val)).cb.counters[0].value < 2 ^ 40 ∧
      (counting (BitVec.ofNat 16 action.val)).cb.frozen = false ∧
      qualifies (counting (BitVec.ofNat 16 action.val)) 0 tripOfBus = true ∧
      counterField (counting (BitVec.ofNat 16 action.val)) 0 7 = action.val ∧
      (counting (BitVec.ofNat 16 action.val)).cb.counters[0].overflow = false ∧
      (counting (BitVec.ofNat 16 action.val)).cb.counters[0].value + 1 = 2 ^ 40) ∧
    qualifies calm 0 tripOfBus = false ∧
    (∃ s : State, s.cb.counters[0].value < 2 ^ 40 ∧ s.cb.frozen = true) ∧
    (∃ s : State, s.cb.counters[0].value < 2 ^ 40 ∧ counterField s 0 7 = 1 ∧ s.cb.counters[0].overflow = true) ∧
    (opening.cb.counters[4].value < 2 ^ 40 ∧ counterField opening 4 0 = 3 ∧ counterField opening 4 1 = 4 ∧
      opening.cb.frozen = false ∧ counterField opening 4 7 = 4 ∧ maskBit opening 4 2 = true ∧
      counterField opening 4 5 ≤ opening.cb.duty[2] * opening.cb.duty[2] / 10000 ∧
      maskBit opening 4 3 = false) :=
  ⟨by decide, by decide, ⟨calm.onCb fun c => { c with frozen := true }, by decide, rfl⟩,
    ⟨(counting 1).onCb fun c => { c with counters := c.counters.set 0 { c.counters[0] with overflow := true } },
      by decide, by decide, by decide⟩, by decide +kernel⟩

/-- 10, worked example: the far-end opening of 2330 A gains 33 and leaves 14. -/
theorem test_breaker_duty_opening :
    (countEvent ⟨.breaker, 2, .opened, 1, some 70⟩ opening).cb.counters[4].value = 2 ^ 40 - 4967 ∧
      (countEvent ⟨.breaker, 2, .opened, 1, some 70⟩ opening).cb.counters[4].sub = 14 := by decide +kernel

/-- Counter 0 counts frames with a queue that is not empty; counter 1 adds the rectifier current. -/
def accumulating : State :=
  ((((holding 300 calm).onSbi fun b => { b with sync := .holdover }).onEru fun e =>
    { e with queue := [⟨0, Clock.zero, tripOfBus, false⟩] }).onCb fun c => { c with
    programme := (((((c.programme.set 0 2).set 1 4).set 2 64).set 9 3).set 10 2).set 11 64 }).onBreaker 6 fun r =>
    { r with op := .tripping, position := .closed, moved := true }

theorem witness_FramesAndValuesAreCounted :
    ∃ s t inp, s.scu.job = none ∧ exec (.frame inp) s = .next t ∧ s.cb.counters[0].value < 2 ^ 40 ∧
      s.cb.counters[1].value < 2 ^ 40 ∧ s.cb.frozen = false ∧ counterField s 0 0 = 2 ∧ counterField s 0 1 = 4 ∧
      maskBit s 0 6 = true ∧ s.eru.queue ≠ [] ∧ counterField s 0 4 = 0 ∧ counterField s 0 7 ≠ 1 ∧
      counterField s 1 0 = 3 ∧ counterField s 1 1 = 2 ∧ maskBit s 1 6 = true ∧ t.iRectUsable = true ∧ 0 < t.iRect ∧
      (s.breaker 6).op = .tripping ∧ (s.breaker 0).op ≠ .tripping ∧ (t.breaker 0).tripTaken = false :=
  ⟨accumulating, _, silence .missing, rfl, rfl, by decide, by decide, rfl, by decide, by decide, by decide,
    by simp [accumulating, State.onEru, State.onCb, State.onBreaker, State.onBdu], by decide, by decide, by decide,
    by decide, by decide, by decide +kernel, by decide +kernel, by decide, by decide, by decide +kernel⟩

/-- A full queue of records of one class. -/
def fullQueue (cls : Nat) : Eru :=
  { calm.eru with queue := List.replicate 128 ⟨0, Clock.zero, { tripOfBus with cls := cls }, false⟩ }

theorem witness_FullQueueKeepsTheGraverRecords :
    calm.eru.queue.length < 128 ∧ (fullQueue 0).queue.length = 128 ∧
      (∀ r ∈ (fullQueue 0).queue, r.msg.cls ≤ tripOfBus.cls) ∧ (fullQueue 3).queue.length = 128 ∧
      ∃ r ∈ (fullQueue 3).queue, tripOfBus.cls < r.msg.cls := by decide +kernel

theorem witness_FrameRecordsAnEntry :
    (∃ s t inp, s.scu.job = none ∧ exec (.frame inp) s = .next t ∧ s.eru.buffers[0].state = .capture ∧
      s.eru.buffers[0].decim = 0 ∧ s.eru.buffers[0].write < 2048 ∧ s.eru.buffers[1].state = .held) ∧
    (∃ s t inp, s.scu.job = none ∧ exec (.frame inp) s = .next t ∧ s.eru.buffers[0].state = .post ∧
      s.eru.buffers[0].decim = 1) :=
  ⟨⟨buffersAt .capture .held, _, silence .missing, rfl, rfl, by decide, by decide, by decide, by decide⟩,
    ⟨(buffersAt .post .free).onBuffer 0 fun x => { x with decim := 1 }, _, silence .missing, rfl, rfl, by decide,
      by decide⟩⟩

theorem witness_steps_of_the_invariants :
    ∃ s t : State, s.InRange ∧ s.FiringAgrees ∧ s.GroupsAgree ∧ s.CoilsApart ∧ s.AtRest ∧ s.pending = [.openAll] ∧
      step s = .next t :=
  ⟨{ calm with pending := [.openAll] }, _,
    ⟨by unfold Clock.inRange; decide, fun _ h => (nomatch h), fun _ h => (nomatch h), by decide, by decide, by decide,
      by decide, by decide, by decide, rfl⟩,
    ⟨by decide, by decide⟩,
    ⟨fun g => by cases g <;> exact ⟨fun h => (nomatch h), fun h => h.elim fun _ h => (nomatch h.1)⟩, fun _ h => (nomatch h)⟩,
    by unfold State.CoilsApart; decide, rest_of rfl rfl rfl, rfl, rfl⟩

theorem witness_FrameLeavesTheDeviceAtRest : ∃ t, exec (.frame (silence .missing)) State.reset = .next t := ⟨_, rfl⟩

end Sys2Proof.Tests
end

section
/-! PROOF. The measurement channels (03): what scaling (R51), the clamp (R52) and a change of the limit (R59) give. -/

namespace Sys2Proof.Machine

/-! ## Scaling (R51) -/

section Scaling

variable {v : ChanView} {raw : Int}

theorem scale_eq_neg_tdiv_neg_product (v : ChanView) (raw : Int) :
    scale v raw = -(-((raw - v.offset) * v.gain)).tdiv 4096 := by
  rw [Int.neg_tdiv, Int.neg_neg, scale]

/-- A product that is not negative is divided downward, that is toward zero. -/
theorem scale_of_product_nonneg (h : 0 ≤ (raw - v.offset) * v.gain) :
    0 ≤ scale v raw ∧ 4096 * scale v raw ≤ (raw - v.offset) * v.gain ∧
      (raw - v.offset) * v.gain < 4096 * (scale v raw + 1) := by
  rw [scale, Int.tdiv_eq_ediv_of_nonneg h]
  omega

/-- A negative product is divided upward, that is toward zero. -/
theorem scale_of_product_neg (h : (raw - v.offset) * v.gain < 0) :
    scale v raw ≤ 0 ∧ (raw - v.offset) * v.gain ≤ 4096 * scale v raw ∧
      4096 * (scale v raw - 1) < (raw - v.offset) * v.gain := by
  rw [scale_eq_neg_tdiv_neg_product, Int.tdiv_eq_ediv_of_nonneg (by omega)]
  omega

theorem natAbs_scale (v : ChanView) (raw : Int) : (scale v raw).natAbs = (raw - v.offset).natAbs * v.gain / 4096 := by
  rw [scale, Int.natAbs_tdiv, Int.natAbs_mul, Int.natAbs_natCast]
  rfl

theorem natAbs_scale_le (hdiff : (raw - v.offset).natAbs ≤ 65535) (hgain : v.gain ≤ 65535) :
    (scale v raw).natAbs ≤ 1048544 := by
  have hproduct : (raw - v.offset).natAbs * v.gain ≤ 65535 * 65535 := Nat.mul_le_mul hdiff hgain
  rw [natAbs_scale]
  omega

theorem scale_identity (hgain : v.gain = 4096) (hoffset : v.offset = 0) : scale v raw = raw := by
  rw [scale, hgain, hoffset, Int.sub_zero]
  exact Int.mul_tdiv_cancel raw (by decide)

end Scaling

/-! ## The clamp (R52) -/

section Clamp

variable {limit : Nat} {x : Int}

theorem clampStage_below (h : x.natAbs < limit) : clampStage limit x = ⟨x, .valid⟩ := if_pos h

theorem clampStage_top (hpos : 1 ≤ limit) (h : (limit : Int) ≤ x) : clampStage limit x = ⟨limit, .saturated⟩ := by
  have hbig : ¬ x.natAbs < limit := by omega
  have hsign : ¬ x < 0 := by omega
  rw [clampStage, if_neg hbig, if_neg hsign]

theorem clampStage_bottom (hpos : 1 ≤ limit) (h : x ≤ -(limit : Int)) :
    clampStage limit x = ⟨-(limit : Int), .saturated⟩ := by
  have hbig : ¬ x.natAbs < limit := by omega
  have hsign : x < 0 := by omega
  rw [clampStage, if_neg hbig, if_pos hsign]

/-- A value is below the limit, at or above it, or at or below its negative. -/
theorem clamp_cases (limit : Nat) (x : Int) : x.natAbs < limit ∨ (limit : Int) ≤ x ∨ x ≤ -(limit : Int) := by
  omega

theorem clampStage_value_bounds (hpos : 1 ≤ limit) (x : Int) :
    -(limit : Int) ≤ (clampStage limit x).value ∧ (clampStage limit x).value ≤ limit := by
  obtain hbelow | htop | hbottom := clamp_cases limit x
  · simp only [clampStage_below hbelow]
    omega
  · simp only [clampStage_top hpos htop]
    omega
  · simp only [clampStage_bottom hpos hbottom]
    omega

theorem clampStage_zero (hpos : 1 ≤ limit) : clampStage limit 0 = ⟨0, .valid⟩ :=
  clampStage_below hpos

theorem stageResult_present {v : ChanView} (hkind : v.kind ≠ 0) (ch : Channel) (raw : Int) :
    stageResult v ch (.present raw) = clampStage v.limit (scale v raw) := if_neg hkind

end Clamp

/-! ## A change of the limit alone (R59) -/

theorem not_rescaled_limit (v : ChanView) (l : Nat) : rescaled v { v with limit := l } = false := by
  simp [rescaled]

theorem switch_limit (ch : Channel) (v : ChanView) (l : Nat) : ch.switch v { v with limit := l } = ch := by
  simp [Channel.switch, not_rescaled_limit]

/-! ## The statements -/

/-- Settles O28, by the sign of the product for the truncation and by the magnitudes of the factors for the bound. -/
theorem scalingTruncatesTowardZero : Obligations.ScalingTruncatesTowardZero := by
  intro v raw hrawLow hrawHigh hoffLow hoffHigh hgain
  have hbound : (scale v raw).natAbs ≤ 1048544 := natAbs_scale_le (by omega) hgain
  exact ⟨scale_of_product_nonneg, scale_of_product_neg, by omega, by omega, by omega, by omega, scale_identity⟩

/-- Settles O29: a raw value present reaches the clamp, whose three cases are the limit's, and the limit is not among
the fields that rescale a channel. -/
theorem clampSaturatesAtTheLimit : Obligations.ClampSaturatesAtTheLimit := by
  intro v ch raw hkind hpos _
  rw [stageResult_present hkind]
  obtain ⟨hlow, hhigh⟩ := clampStage_value_bounds hpos (scale v raw)
  exact ⟨clampStage_below, clampStage_top hpos, clampStage_bottom hpos, hlow, hhigh,
    fun hzero => by rw [hzero, clampStage_zero hpos], switch_limit ch v⟩

end Sys2Proof.Machine
end
